-- ==== Sys2Proof/Word.lean ====
section
/-! DEFINITION. The word type of the engine and the narrower bit fields the spec names (00_scope.md R6, R8, R9). -/

namespace Sys2Proof

/-- R6, R9: a word is an unsigned 32-bit integer; addition wraps, which is `BitVec` addition. -/
abbrev Word := BitVec 32

/-- R41, R42: one byte of the host's byte strings. -/
abbrev Byte := BitVec 8

/-- R28, R31: a byte offset from BASE inside the 256-byte register window. -/
abbrev Offset := BitVec 8

/-- R13, R50: the index of a state word, 0 to 15. -/
abbrev Slot := Fin 16

/-- R13, R20: sixteen words, the shape of S and of O. -/
abbrev Block := Vector Word 16

end Sys2Proof
end

