-- ==== Sys2Proof/Syntax.lean ====
section
/-! DEFINITION. What can be written down: the six commands (30_encoding.md R49), the registers of the window
(20_memory.md R29), the operations a host performs (R31, R56, R89) and the assembler statements (R55, R56). -/

namespace Sys2Proof

/-- R49: the commands. Only QR has explicit operands (R50): the slots a, b, c and d. -/
inductive Instr where
  | nop
  | init
  | qr (a b c d : Slot)
  | dround
  | block
  | clrin
deriving DecidableEq, Repr

/-- R29: the named registers of the window. -/
inductive Reg where
  | state (i : Slot)
  | key (j : Fin 8)
  | counter
  | nonce (j : Fin 3)
  | latchv
  | cmd
  | status
  | const (i : Fin 4)
  | orig (i : Slot)
deriving DecidableEq, Repr

/-- One element of what the outside world does to the engine, in the order of R43.
An access names the byte offset of its first byte and its width in bytes, so that a refused access (R32) can be
written down too. -/
inductive HostOp where
  /-- A read of `bytes` bytes at offset `off` (R33; R32 where refused). -/
  | read (off : Offset) (bytes : Nat)
  /-- A write of `bytes` bytes at offset `off`; `v` is the 32-bit value where `bytes` is 4 (R34; R32 where refused). -/
  | write (off : Offset) (bytes : Nat) (v : Word)
  /-- R56 `wait`: read STATUS, and again while bit 0 of the value read is 1. -/
  | wait
  /-- R89: the platform asserts and releases the reset input. -/
  | reset
deriving DecidableEq, Repr

/-- R55: assembler statements, and R56: pseudo-instructions. -/
inductive Stmt where
  | wr (r : Reg) (v : Word)
  | rd (r : Reg)
  | cmd (v : Word)
  | nop
  | init
  | qr (a b c d : Slot)
  | dround
  | block
  | clrin
  | wait
  | clrerr
  | loadkey (k : Vector Word 8)
  | loadnonce (n : Vector Word 3)
  | loadstate (s : Block)
  | readstate
  | colpass
  | diagpass
deriving DecidableEq, Repr

end Sys2Proof
end

