-- ==== Sys2Proof/WellFormed.lean ====
section
/-! DEFINITION. The constraint of the opcode table: the four slots of QR are pairwise distinct (30_encoding.md R52,
opcode_table.json row qr). A QR that is not well formed is still a legal word (R51): it decodes, and issuing it records
QR_ALIAS (R70). -/

namespace Sys2Proof

/-- R52, R53: `distinct(a, b, c, d)`. -/
def slotsDistinct (a b c d : Slot) : Bool :=
  a != b && a != c && a != d && b != c && b != d && c != d

/-- The table's constraint on a command. -/
def Instr.wellFormed : Instr → Bool
  | .nop => true
  | .init => true
  | .qr a b c d => slotsDistinct a b c d
  | .dround => true
  | .block => true
  | .clrin => true

end Sys2Proof
end

