-- ==== Sys2Proof/Decode.lean ====
section
/-! DEFINITION. The command word (30_encoding.md R48 to R51): its fields, its legality, the decoder and the encoder. -/

namespace Sys2Proof

/-- R48: OP, bits 3:0. -/
def opField (v : Word) : BitVec 4 := v.extractLsb' 0 4
/-- R48: RSV0, bits 7:4. -/
def rsv0Field (v : Word) : BitVec 4 := v.extractLsb' 4 4
/-- R48, R50: QA, bits 11:8. -/
def qaField (v : Word) : Slot := (v.extractLsb' 8 4).toFin
/-- R48, R50: QB, bits 15:12. -/
def qbField (v : Word) : Slot := (v.extractLsb' 12 4).toFin
/-- R48, R50: QC, bits 19:16. -/
def qcField (v : Word) : Slot := (v.extractLsb' 16 4).toFin
/-- R48, R50: QD, bits 23:20. -/
def qdField (v : Word) : Slot := (v.extractLsb' 20 4).toFin
/-- R48: bits 23:8, which every opcode other than QR requires to be 0. -/
def indexField (v : Word) : BitVec 16 := v.extractLsb' 8 16
/-- R48: RSV1, bits 31:24. -/
def rsv1Field (v : Word) : BitVec 8 := v.extractLsb' 24 8

/-- R51: why a word is no command. The engine reports every one of them as ILLEGAL_CMD (log 13). -/
inductive Illegal where
  /-- A 1 in bits 7:4. Raised by `decode`; safe: R51 gives the same refusal. -/
  | rsv0Set
  /-- A 1 in bits 31:24. Raised by `decode`; safe: R51 gives the same refusal. -/
  | rsv1Set
  /-- OP is 6 to 15. Raised by `decode`; safe: R51 gives the same refusal. -/
  | reservedOpcode
  /-- A 1 in bits 23:8 with an OP other than QR. Raised by `decode`; safe: R51 gives the same refusal. -/
  | indexBitsSet
deriving DecidableEq, Repr

/-- R51: a command without index fields. -/
def decodePlain (v : Word) (i : Instr) : Except Illegal Instr :=
  if indexField v = 0 then .ok i else .error .indexBitsSet

/-- R48 to R51: the command a word stands for. -/
def decode (v : Word) : Except Illegal Instr :=
  if rsv0Field v ≠ 0 then .error .rsv0Set
  else if rsv1Field v ≠ 0 then .error .rsv1Set
  else
    match (opField v).toNat with
    | 0 => decodePlain v .nop
    | 1 => decodePlain v .init
    | 2 => .ok (.qr (qaField v) (qbField v) (qcField v) (qdField v))
    | 3 => decodePlain v .dround
    | 4 => decodePlain v .block
    | 5 => decodePlain v .clrin
    | _ => .error .reservedOpcode

/-- R50: a slot as a 4-bit field. -/
def slotBits (a : Slot) : BitVec 4 := BitVec.ofFin a

/-- R48, R49: the word of a command; for QR, `{RSV1, QD, QC, QB, QA, RSV0, OP}`. -/
def encode : Instr → Word
  | .nop => 0x00000000
  | .init => 0x00000001
  | .qr a b c d => 0x00#8 ++ slotBits d ++ slotBits c ++ slotBits b ++ slotBits a ++ 0x02#8
  | .dround => 0x00000003
  | .block => 0x00000004
  | .clrin => 0x00000005

/-- The command that the decoder reads from the low `nbits` bits of `w`, every higher bit being 0 (R54: a command is
one 32-bit word). -/
def decodeTableWord (nbits w : Nat) : Option Instr :=
  match decode (BitVec.ofNat 32 (w % 2 ^ nbits)) with
  | .ok i => some i
  | .error _ => none

end Sys2Proof
end

