-- ==== Sys2Proof/Config.lean ====
section
/-! DEFINITION. What is fixed for one engine: the constant table (10_state.md R15) and the open parameters of
00_scope.md R7, each an uninterpreted constant (no value of theirs can be proved). -/

namespace Sys2Proof

/-- R15: the constant table, "expand 32-byte k" packed little-endian. -/
def Config.const : Vector Word 4 := #v[0x61707865, 0x3320646e, 0x79622d32, 0x6b206574]

/-- R7 `BUSY_READ`, R37: the value of the n-th free draw; nothing is known of it (log 3). -/
opaque Config.busyRead : Nat → Word

/-- R7 `LAT`, R93: how many steps lie between the acceptance of a command and its completion; the first argument numbers
the draws, so that two commands may take different times (log 2). -/
opaque Config.lat : Nat → Instr → Nat

/-- R7 `BASE` divided by 256: the platform's choice (log 4). -/
opaque Config.basePage : Nat

/-- R7 `BUSERR`, R32: the platform's form of the report of a refused access (log 5). -/
opaque Config.busErr : Offset → Nat → Nat

/-- R7, R28: `BASE`, aligned to 256 bytes. -/
def Config.base : Nat := 256 * Config.basePage

end Sys2Proof
end

