-- ==== Sys2Proof/Machine/State.lean ====
section
/-! DEFINITION. The state: the spec's tuple (10_state.md R27) as `Engine`, and around it what the model holds of the
outside world. INVENTORY.md lists every field with its rule and its reset value. -/

namespace Sys2Proof.Machine

/-- R73: what an error records. -/
inductive ErrorCode where
  /-- INIT with fewer than 8 key words latched. -/
  | keyLength
  /-- INIT with 8 key words and fewer than 3 nonce words latched. -/
  | nonceLength
  /-- A word written to CMD that is no command. -/
  | illegalCmd
  /-- QR whose slots are not pairwise distinct. -/
  | qrAlias
  /-- A write to a GUARDED offset while BUSY is 1. -/
  | busyWrite
deriving DecidableEq, Repr

/-- R27: the complete architectural state of the engine. -/
structure Engine where
  /-- R13: the working state. -/
  S : Block
  /-- R16: the key latch. -/
  K : Vector Word 8
  /-- R16, R19: the key-valid bits, bit j for slot j. -/
  KV : BitVec 8
  /-- R17: the nonce latch. -/
  N : Vector Word 3
  /-- R17, R19: the nonce-valid bits, bit j for slot j. -/
  NV : BitVec 3
  /-- R18: the counter latch. -/
  CTR : Word
  /-- R20: the feed-forward snapshot. -/
  O : Block
  /-- R21: STATUS.BUSY. -/
  BUSY : Bool
  /-- R21: STATUS.ERR. -/
  ERR : Bool
  /-- R21: STATUS.ERRCODE. -/
  ERRCODE : BitVec 4
  /-- R23: the accepted command, if any. -/
  PEND : Option Instr
deriving DecidableEq, Repr

/-- The engine, and the environment it stands in. -/
structure State where
  /-- R27: the engine. -/
  engine : Engine
  /-- The host's operations still to be performed, oldest first (R43). -/
  inputs : List HostOp
  /-- The values reads have returned to the host, newest first (R33, R55). -/
  returned : List Word
  /-- Numbers the free values `Config.busyRead` and `Config.lat`. -/
  draws : Nat
  /-- Steps left before the pending command completes (R7 `LAT`). -/
  latLeft : Nat
deriving DecidableEq, Repr

/-- Why the machine stops. -/
inductive Fault where
  /-- Raised by a host access that R32 refuses: not 32 bits wide, misaligned, or past the window's end. A fault of the
  host program (R11); `report` is the platform's form of it. Safe: the access has no effect on the engine. -/
  | busError (off : Offset) (report : Nat)
deriving DecidableEq, Repr

/-- Why an instruction has no meaning. -/
inductive Refusal where
  /-- Raised by an arm of `exec` that has no meaning yet; safe. No arm of this model raises it. -/
  | notModelled (mnemonic : String)
deriving DecidableEq, Repr

/-- R89: every state element at its reset value. -/
def Engine.reset : Engine where
  S := Vector.replicate 16 0
  K := Vector.replicate 8 0
  KV := 0
  N := Vector.replicate 3 0
  NV := 0
  CTR := 0
  O := Vector.replicate 16 0
  BUSY := false
  ERR := false
  ERRCODE := 0
  PEND := none

/-- The machine right after reset, with no host operation waiting. -/
def State.reset : State where
  engine := Engine.reset
  inputs := []
  returned := []
  draws := 0
  latLeft := 0

end Sys2Proof.Machine
end

