-- ==== Sys2Proof/Machine/Operands.lean ====
section
/-! DEFINITION. Operands: word operations on slots of a block (00_scope.md R9, R10; 41_permutation.md R61, R62), and the
registers an offset of the window names (20_memory.md R29, R36, R37). -/

namespace Sys2Proof.Machine

/-- R9: the circular left rotation, for 0 < n < 32. -/
def rotl (x : Word) (n : Nat) : Word := (x <<< n) ||| (x >>> (32 - n))

/-- R63: `S[x] <- S[x] + S[y]`. -/
def addSlot (x y : Slot) (S : Block) : Block := S.set x (S[x] + S[y])

/-- R63: `S[x] <- S[x] ^ S[y]`. -/
def xorSlot (x y : Slot) (S : Block) : Block := S.set x (S[x] ^^^ S[y])

/-- R63: `S[x] <- rotl(S[x], n)`. -/
def rotSlot (x : Slot) (n : Nat) (S : Block) : Block := S.set x (rotl S[x] n)

/-- R29: the offset of a register. -/
def regOffset : Reg → Offset
  | .state i => BitVec.ofNat 8 (0x00 + 4 * i.val)
  | .key j => BitVec.ofNat 8 (0x40 + 4 * j.val)
  | .counter => 0x60
  | .nonce j => BitVec.ofNat 8 (0x64 + 4 * j.val)
  | .latchv => 0x70
  | .cmd => 0x74
  | .status => 0x78
  | .const i => BitVec.ofNat 8 (0x80 + 4 * i.val)
  | .orig i => BitVec.ofNat 8 (0xC0 + 4 * i.val)

/-- R29: the register whose word holds the byte at an offset; none for the reserved offsets 0x7C and 0x90 to 0xBC. -/
def regAt (off : Offset) : Option Reg :=
  let n := off.toNat / 4
  if h : n < 16 then some (.state ⟨n, h⟩)
  else if h : n < 24 then some (.key ⟨n - 16, by omega⟩)
  else if n = 24 then some .counter
  else if h : n < 28 then some (.nonce ⟨n - 25, by omega⟩)
  else if n = 28 then some .latchv
  else if n = 29 then some .cmd
  else if n = 30 then some .status
  else if n = 31 then none
  else if h : n < 36 then some (.const ⟨n - 32, by omega⟩)
  else if n < 48 then none
  else if h : n < 64 then some (.orig ⟨n - 48, by omega⟩)
  else none

/-- R36: `GUARDED`, the registers a host may not write while BUSY is 1. -/
def regGuarded : Reg → Bool
  | .state _ => true
  | .key _ => true
  | .counter => true
  | .nonce _ => true
  | .latchv => false
  | .cmd => true
  | .status => false
  | .const _ => false
  | .orig _ => false

/-- R37: `OWNED`, the registers whose reads are draws while BUSY is 1. -/
def regOwned : Reg → Bool
  | .state _ => true
  | .key _ => true
  | .counter => true
  | .nonce _ => true
  | .latchv => true
  | .cmd => false
  | .status => false
  | .const _ => false
  | .orig _ => true

/-- R31, R32: an access that the window refuses. -/
def accessRefused (off : Offset) (bytes : Nat) : Bool :=
  bytes != 4 || off.toNat % 4 != 0 || decide (256 < off.toNat + bytes)

/-- R28: the bus address of an offset of the window. -/
def busAddress (off : Offset) : Nat := Config.base + off.toNat

/-- R28: the offset a bus address selects; none for an address outside the window, which does not reach the engine. -/
def windowOffset (addr : Nat) : Option Offset :=
  if Config.base ≤ addr ∧ addr < Config.base + 256 then some (BitVec.ofNat 8 (addr - Config.base)) else none

end Sys2Proof.Machine
end

