-- ==== Sys2Proof/Machine/Flags.lean ====
section
/-! DEFINITION. The status bits: the STATUS and LATCHV words (10_state.md R19, R21), the valid bits, and the error codes
(60_exceptions.md R73). The engine has no arithmetic flags (R25). -/

namespace Sys2Proof.Machine

/-- R73: the code of an error, as held in ERRCODE; 0 is NONE. -/
def errorCodeBits : ErrorCode → BitVec 4
  | .keyLength => 1
  | .nonceLength => 2
  | .illegalCmd => 3
  | .qrAlias => 4
  | .busyWrite => 5

/-- R21, R33: `zext_32({ERRCODE[3:0], 0b00, ERR, BUSY})`. -/
def statusWord (e : Engine) : Word :=
  (e.ERRCODE ++ 0b00#2 ++ BitVec.ofBool e.ERR ++ BitVec.ofBool e.BUSY).setWidth 32

/-- R19, R33: `zext_32({NV[2:0], KV[7:0]})`. -/
def latchvWord (e : Engine) : Word := (e.NV ++ e.KV).setWidth 32

/-- R16: every key slot has been written since the last reset or CLRIN. -/
def keyComplete (e : Engine) : Bool := e.KV == BitVec.allOnes 8

/-- R17: every nonce slot has been written since the last reset or CLRIN. -/
def nonceComplete (e : Engine) : Bool := e.NV == BitVec.allOnes 3

/-- R21, R76: the bit of a written word that clears the error, bit 1. -/
def clearsError (v : Word) : Bool := v.getLsbD 1

/-- R56: the bit of a STATUS word that `wait` polls, bit 0. -/
def showsBusy (v : Word) : Bool := v.getLsbD 0

end Sys2Proof.Machine
end

