-- ==== Sys2Proof/Machine/Ops.lean ====
section
/-! DEFINITION. The named operations over the engine: raising and clearing an error (60_exceptions.md R75, R76),
accepting and retiring a command (30_encoding.md R53, 70_reset_and_hazards.md R92), and reading and writing one register
(20_memory.md R33, R34). -/

namespace Sys2Proof.Machine

/-! ## Recording an error, and the return from it -/

/-- R75: `raise Error(code)`: the first error is kept, and nothing else changes. -/
def Engine.raiseError (c : ErrorCode) (e : Engine) : Engine :=
  if e.ERR then e else { e with ERR := true, ERRCODE := errorCodeBits c }

/-- R21, R76, R81: clearing the error, the only return there is. -/
def Engine.clearError (e : Engine) : Engine := { e with ERR := false, ERRCODE := 0 }

/-! ## The life of a command -/

/-- R53: `PEND <- v; STATUS.BUSY <- 1`. -/
def Engine.accept (i : Instr) (e : Engine) : Engine := { e with PEND := some i, BUSY := true }

/-- R92: `PEND <- none; STATUS.BUSY <- 0`. -/
def Engine.retire (e : Engine) : Engine := { e with PEND := none, BUSY := false }

/-! ## One register -/

/-- R13: all sixteen state words at once, as the commands write them. -/
def Engine.setS (S : Block) (e : Engine) : Engine := { e with S := S }

/-- R20: the snapshot, as BLOCK writes it. -/
def Engine.setO (O : Block) (e : Engine) : Engine := { e with O := O }

/-- R13, R34: `S[i] <- v`. -/
def Engine.writeS (i : Slot) (v : Word) (e : Engine) : Engine := e.setS (e.S.set i v)

/-- R16, R34: `K[j] <- v; KV[j] <- 1`. -/
def Engine.latchKey (j : Fin 8) (v : Word) (e : Engine) : Engine :=
  { e with K := e.K.set j v, KV := e.KV ||| (1#8 <<< j.val) }

/-- R17, R34: `N[j] <- v; NV[j] <- 1`. -/
def Engine.latchNonce (j : Fin 3) (v : Word) (e : Engine) : Engine :=
  { e with N := e.N.set j v, NV := e.NV ||| (1#3 <<< j.val) }

/-- R18, R34: `CTR <- v`. -/
def Engine.writeCTR (v : Word) (e : Engine) : Engine := { e with CTR := v }

/-- R21, R34: a write to STATUS. -/
def Engine.writeStatus (v : Word) (e : Engine) : Engine := if clearsError v then e.clearError else e

/-- R34 without its busy case and without CMD: what a write to a register stores. Writes to read-only registers are
ignored (R35); a write to CMD stores nothing by itself (R22). -/
def Engine.writeReg (r : Reg) (v : Word) (e : Engine) : Engine :=
  match r with
  | .state i => e.writeS i v
  | .key j => e.latchKey j v
  | .counter => e.writeCTR v
  | .nonce j => e.latchNonce j v
  | .latchv => e
  | .cmd => e
  | .status => e.writeStatus v
  | .const _ => e
  | .orig _ => e

/-- R33 without its busy case: the value a register holds. CMD reads 0 (R22). -/
def Engine.readReg (r : Reg) (e : Engine) : Word :=
  match r with
  | .state i => e.S[i]
  | .key j => e.K[j]
  | .counter => e.CTR
  | .nonce j => e.N[j]
  | .latchv => latchvWord e
  | .cmd => 0
  | .status => statusWord e
  | .const i => Config.const[i]
  | .orig i => e.O[i]

/-! ## The same over the whole state -/

/-- R75 in the state. -/
def State.raiseError (c : ErrorCode) (s : State) : State := { s with engine := s.engine.raiseError c }

/-- R53 in the state: acceptance, which also draws the command's latency (R7 `LAT`, log 2). -/
def State.accept (i : Instr) (s : State) : State :=
  { s with engine := s.engine.accept i, latLeft := Config.lat s.draws i, draws := s.draws + 1 }

/-- R92 in the state: the command's whole effect, and then BUSY is cleared. -/
def State.complete (effect : Engine → Engine) (s : State) : State :=
  { s with engine := (effect s.engine).retire }

/-- One step of a command other than NOP. A pending command completes (R92); while another one is pending the command is
dropped with BUSY_WRITE (R36); otherwise it is issued: the first failing check is recorded, and a command that passes
becomes pending (R53). -/
def runCommand (i : Instr) (check : Engine → Option ErrorCode) (effect : Engine → Engine) (s : State) :
    Host.Outcome State Fault Refusal :=
  if s.engine.PEND = some i then .next (s.complete effect)
  else if s.engine.BUSY then .next (s.raiseError .busyWrite)
  else
    match check s.engine with
    | some c => .next (s.raiseError c)
    | none => .next (s.accept i)

/-- The check of a command that has none (R52). -/
def noCheck (_ : Engine) : Option ErrorCode := none

end Sys2Proof.Machine
end

