-- ==== Sys2Proof/Machine/Builder.lean ====
section
/-! DEFINITION. The state builder and the control commands (40_state_builder.md): INIT, CLRIN, NOP. -/

namespace Sys2Proof.Machine

/-- R57, R58: the checks of INIT at issue, the key first. -/
def initCheck (e : Engine) : Option ErrorCode :=
  if !keyComplete e then some .keyLength
  else if !nonceComplete e then some .nonceLength
  else none

/-- R14, R57: the sixteen words INIT writes. -/
def initBlock (K : Vector Word 8) (CTR : Word) (N : Vector Word 3) : Block :=
  #v[Config.const[0], Config.const[1], Config.const[2], Config.const[3],
     K[0], K[1], K[2], K[3],
     K[4], K[5], K[6], K[7],
     CTR, N[0], N[1], N[2]]

/-- R57, at completion. -/
def initEffect (e : Engine) : Engine := e.setS (initBlock e.K e.CTR e.N)

/-- R57: INIT. -/
def execInit (s : State) : Host.Outcome State Fault Refusal := runCommand .init initCheck initEffect s

/-- R59, at completion: the input latches return to their reset values. -/
def clrinEffect (e : Engine) : Engine :=
  { e with K := Vector.replicate 8 0, KV := 0, N := Vector.replicate 3 0, NV := 0, CTR := 0 }

/-- R59: CLRIN. -/
def execClrin (s : State) : Host.Outcome State Fault Refusal := runCommand .clrin noCheck clrinEffect s

/-- R60: NOP changes nothing and is never pending; while BUSY is 1 it is dropped with BUSY_WRITE (R36). The first case
stands for a NOP in PEND, which no run reaches (log 6). -/
def execNop (s : State) : Host.Outcome State Fault Refusal :=
  if s.engine.PEND = some .nop then .next (s.complete id)
  else if s.engine.BUSY then .next (s.raiseError .busyWrite)
  else .next s

end Sys2Proof.Machine
end

