-- ==== Sys2Proof/Machine/Permutation.lean ====
section
/-! DEFINITION. The permutation engine (41_permutation.md): the functions of its section 1 and the commands QR, DROUND
and BLOCK. -/

namespace Sys2Proof.Machine

/-- R63: one of the four steps: `S[x] <- S[x] + S[y]; S[z] <- S[z] ^ S[x]; S[z] <- rotl(S[z], n)`. -/
def quarterStep (x y z : Slot) (n : Nat) (S : Block) : Block := rotSlot z n (xorSlot z x (addSlot x y S))

/-- R63: `QuarterRound(S, a, b, c, d)`, in place, for any four slots. -/
def quarterRound (S : Block) (a b c d : Slot) : Block :=
  let S := quarterStep a b d 16 S
  let S := quarterStep c d b 12 S
  let S := quarterStep a b d 8 S
  quarterStep c d b 7 S

/-- R64: `ColumnPass(S)`. -/
def columnPass (S : Block) : Block :=
  let S := quarterRound S 0 4 8 12
  let S := quarterRound S 1 5 9 13
  let S := quarterRound S 2 6 10 14
  quarterRound S 3 7 11 15

/-- R65: `DiagonalPass(S)`. -/
def diagonalPass (S : Block) : Block :=
  let S := quarterRound S 0 5 10 15
  let S := quarterRound S 1 6 11 12
  let S := quarterRound S 2 7 8 13
  quarterRound S 3 4 9 14

/-- R67: `DoubleRound(S)`. -/
def doubleRound (S : Block) : Block := diagonalPass (columnPass S)

/-- R68: `n` double-rounds. -/
def doubleRounds : Nat → Block → Block
  | 0, S => S
  | n + 1, S => doubleRounds n (doubleRound S)

/-- R68: the words of `Block(S)`: ten double-rounds, and then the feed-forward. -/
def blockWords (S : Block) : Block := Vector.zipWith (· + ·) (doubleRounds 10 S) S

/-- R70: the check of QR at issue. -/
def qrCheck (a b c d : Slot) (_ : Engine) : Option ErrorCode :=
  if slotsDistinct a b c d then none else some .qrAlias

/-- R70, at completion. -/
def qrEffect (a b c d : Slot) (e : Engine) : Engine := e.setS (quarterRound e.S a b c d)

/-- R70: QR. -/
def execQr (a b c d : Slot) (s : State) : Host.Outcome State Fault Refusal :=
  runCommand (.qr a b c d) (qrCheck a b c d) (qrEffect a b c d) s

/-- R71, at completion. -/
def droundEffect (e : Engine) : Engine := e.setS (doubleRound e.S)

/-- R71: DROUND. -/
def execDround (s : State) : Host.Outcome State Fault Refusal := runCommand .dround noCheck droundEffect s

/-- R72, at completion: O keeps the words that S held before. -/
def blockEffect (e : Engine) : Engine := (e.setO e.S).setS (blockWords e.S)

/-- R72: BLOCK. -/
def execBlock (s : State) : Host.Outcome State Fault Refusal := runCommand .block noCheck blockEffect s

end Sys2Proof.Machine
end

