-- ==== Sys2Proof/Machine/Dispatch.lean ====
section
/-! DEFINITION. One arm per command of spec/opcode_table.json. -/

namespace Sys2Proof.Machine

def exec (i : Instr) (s : State) : Host.Outcome State Fault Refusal :=
  match i with
  | .nop => Sys2Proof.Machine.execNop s
  | .init => Sys2Proof.Machine.execInit s
  | .qr a b c d => Sys2Proof.Machine.execQr a b c d s
  | .dround => Sys2Proof.Machine.execDround s
  | .block => Sys2Proof.Machine.execBlock s
  | .clrin => Sys2Proof.Machine.execClrin s

end Sys2Proof.Machine
end

