-- ==== Sys2Proof/Machine/Bus.lean ====
section
/-! DEFINITION. The register window: issuing a command (30_encoding.md R53), the host's reads and writes
(20_memory.md R33 to R37), and which event of the one total order comes next (R43, 70_reset_and_hazards.md R92). -/

namespace Sys2Proof.Machine

/-- R53: `Issue(v)`, the effect of a write of `v` to CMD. -/
def issue (v : Word) (s : State) : Host.Outcome State Fault Refusal :=
  match decode v with
  | .error _ => .next (s.raiseError .illegalCmd)
  | .ok i => exec i s

/-- R34, R36: a write to a register. -/
def writeRegister (r : Reg) (v : Word) (s : State) : Host.Outcome State Fault Refusal :=
  if s.engine.BUSY && regGuarded r then .next (s.raiseError .busyWrite)
  else if r = .cmd then issue v s
  else .next { s with engine := s.engine.writeReg r v }

/-- R34: `RegWrite(off, v)`; a write to a reserved offset is ignored (R35). -/
def regWrite (off : Offset) (v : Word) (s : State) : Host.Outcome State Fault Refusal :=
  match regAt off with
  | none => .next s
  | some r => writeRegister r v s

/-- R33, R37: a read of an OWNED register while BUSY is 1 is a draw. -/
def readIsDraw (off : Offset) (e : Engine) : Bool := e.BUSY && (regAt off).any regOwned

/-- R33: the value of `RegRead(off)`; a reserved offset reads 0 (R35). -/
def regReadValue (off : Offset) (s : State) : Word :=
  if readIsDraw off s.engine then Config.busyRead s.draws
  else
    match regAt off with
    | none => 0
    | some r => s.engine.readReg r

/-- R33, R37, R55: the read as a step: the engine is unchanged, the value goes to the host, and a draw is used up. -/
def regRead (off : Offset) (s : State) : State :=
  { s with
    returned := regReadValue off s :: s.returned
    draws := if readIsDraw off s.engine then s.draws + 1 else s.draws }

/-- R32: the refused access. -/
def busError (off : Offset) (bytes : Nat) : Fault := .busError off (Config.busErr off bytes)

/-- R56: one round of the `wait` loop. -/
def pollStatus (s : State) : State :=
  if showsBusy (regReadValue 0x78 s) then { regRead 0x78 s with inputs := .wait :: s.inputs } else regRead 0x78 s

/-- R89: the reset input; a pending command is abandoned. -/
def applyReset (s : State) : State := { s with engine := Engine.reset, latLeft := 0 }

/-- One operation of the outside world. -/
def perform (op : HostOp) (s : State) : Host.Outcome State Fault Refusal :=
  match op with
  | .read off bytes => if accessRefused off bytes then .fault (busError off bytes) else .next (regRead off s)
  | .write off bytes v => if accessRefused off bytes then .fault (busError off bytes) else regWrite off v s
  | .wait => .next (pollStatus s)
  | .reset => .next (applyReset s)

/-- R92: the command whose completion is due: the pending one, when its latency has run out. -/
def completionDue (s : State) : Option Instr := if s.latLeft = 0 then s.engine.PEND else none

/-- R7 `LAT`: one step of the outside world passes. -/
def State.tick (s : State) : State := { s with latLeft := s.latLeft - 1 }

/-- One element of the order of R43: the completion that is due, or else the host's next operation; with neither, the
engine holds its state (R88). -/
def advance (s : State) : Host.Outcome State Fault Refusal :=
  match completionDue s with
  | some i => exec i s
  | none =>
    match s.inputs with
    | [] => .next s.tick
    | op :: rest => perform op { s.tick with inputs := rest }

/-- The host operation that writes a command word to CMD (R22, R55 `cmd`). -/
def commandWrite (v : Word) : HostOp := .write 0x74 4 v

end Sys2Proof.Machine
end

