-- ==== Sys2Proof/Machine/Step.lean ====
section
/-! DEFINITION. The step, and the placing of one instruction where the step finds it. -/

namespace Sys2Proof.Machine

/-- One step of the machine: one event of the total order of 20_memory.md R43. -/
def step (s : State) : Host.Outcome State Fault Refusal := advance s

/-- The host's next operation is the write of the word `w` to CMD, and the engine is free to issue it: no command is
pending (logs 1 and 7). -/
def State.withFetchWord (s : State) (nbits w : Nat) : State :=
  { s with
    engine := s.engine.retire
    inputs := commandWrite (BitVec.ofNat 32 (w % 2 ^ nbits)) :: s.inputs }

end Sys2Proof.Machine
end

