-- ==== Sys2Proof/Machine/HostProgram.lean ====
section
/-! DEFINITION. The host's side: the assembler statements and pseudo-instructions as sequences of host operations
(30_encoding.md R55, R56), accesses by bus address (20_memory.md R28), and the packing of byte strings into words and
of the keystream into bytes (R41, R42). -/

namespace Sys2Proof.Machine

/-- R55: `wr REG, value`. -/
def wrOp (r : Reg) (v : Word) : HostOp := .write (regOffset r) 4 v

/-- R55: `rd REG`. -/
def rdOp (r : Reg) : HostOp := .read (regOffset r) 4

/-- R55: a command as a write of its word to CMD. -/
def commandOp (i : Instr) : HostOp := commandWrite (encode i)

/-- R56: `qr …; wait` for each group of a pass. -/
def passOps (groups : List Instr) : List HostOp := groups.flatMap fun i => [commandOp i, .wait]

/-- R55, R56: the host operations a statement stands for. -/
def expand : Stmt → List HostOp
  | .wr r v => [wrOp r v]
  | .rd r => [rdOp r]
  | .cmd v => [commandWrite v]
  | .nop => [commandOp .nop]
  | .init => [commandOp .init]
  | .qr a b c d => [commandOp (.qr a b c d)]
  | .dround => [commandOp .dround]
  | .block => [commandOp .block]
  | .clrin => [commandOp .clrin]
  | .wait => [.wait]
  | .clrerr => [wrOp .status 0x00000002]
  | .loadkey k => (List.finRange 8).map fun j => wrOp (.key j) k[j]
  | .loadnonce n => (List.finRange 3).map fun j => wrOp (.nonce j) n[j]
  | .loadstate w => (List.finRange 16).map fun i => wrOp (.state i) w[i]
  | .readstate => (List.finRange 16).map fun i => rdOp (.state i)
  | .colpass => passOps [.qr 0 4 8 12, .qr 1 5 9 13, .qr 2 6 10 14, .qr 3 7 11 15]
  | .diagpass => passOps [.qr 0 5 10 15, .qr 1 6 11 12, .qr 2 7 8 13, .qr 3 4 9 14]

/-- R55: a program, statement after statement. -/
def expandProgram (p : List Stmt) : List HostOp := p.flatMap expand

/-- R28: a read at a bus address, where the address lies in the window. -/
def busReadOp (addr bytes : Nat) : Option HostOp := (windowOffset addr).map fun off => .read off bytes

/-- R28: a write at a bus address, where the address lies in the window. -/
def busWriteOp (addr bytes : Nat) (v : Word) : Option HostOp := (windowOffset addr).map fun off => .write off bytes v

/-- R41: four bytes of a key or nonce as a word, little-endian. -/
def packWord (b0 b1 b2 b3 : Byte) : Word := b3 ++ b2 ++ b1 ++ b0

/-- R41: a 32-byte key as the words for KEY[0..7]. -/
def packKey (k : Vector Byte 32) : Vector Word 8 :=
  Vector.ofFn fun j : Fin 8 => packWord k[4 * j.val] k[4 * j.val + 1] k[4 * j.val + 2] k[4 * j.val + 3]

/-- R41: a 12-byte nonce as the words for NONCE[0..2]. -/
def packNonce (n : Vector Byte 12) : Vector Word 3 :=
  Vector.ofFn fun j : Fin 3 => packWord n[4 * j.val] n[4 * j.val + 1] n[4 * j.val + 2] n[4 * j.val + 3]

/-- R42: the bytes of a word, least significant first. -/
def wordByte (v : Word) (k : Nat) : Byte := v.extractLsb' (8 * k) 8

/-- R42: the 64 bytes of a keystream block: word i becomes bytes 4i to 4i+3. -/
def keystreamBytes (S : Block) : Vector Byte 64 :=
  Vector.ofFn fun k : Fin 64 => wordByte S[k.val / 4] (k.val % 4)

end Sys2Proof.Machine
end

