-- ==== Sys2Proof/Safety.lean ====
section
/-! DEFINITION. The terms claims use: the invariant of the engine, idle and pending states, safe host operations, and
the four-word form of the quarter-round. -/

namespace Sys2Proof.Machine

/-- No command is pending and BUSY is 0. -/
def Engine.idle (e : Engine) : Prop := e.PEND = none ∧ e.BUSY = false

/-- What was checked of a command when it was accepted, and still holds while it is pending: INIT finds all its key and
nonce words latched (R57, R95), QR names four distinct slots (R70), and NOP is never pending (R60). -/
def Engine.pendingChecked (e : Engine) : Instr → Prop
  | .nop => False
  | .init => keyComplete e = true ∧ nonceComplete e = true
  | .qr a b c d => slotsDistinct a b c d = true
  | .dround => True
  | .block => True
  | .clrin => True

/-- The invariant of the engine: R23 (`STATUS.BUSY = 1 ⇔ PEND ≠ none`), R21 (ERRCODE is 0 while ERR is 0), R73 (only the
codes 1 to 5 are ever recorded), and `pendingChecked`. -/
structure Engine.Inv (e : Engine) : Prop where
  busy_iff : e.BUSY = true ↔ e.PEND ≠ none
  code_clear : e.ERR = false → e.ERRCODE = 0
  code_raised : e.ERR = true → ∃ c, e.ERRCODE = errorCodeBits c
  pending : ∀ i, e.PEND = some i → e.pendingChecked i

/-- A host operation that the window performs: not a refused access (R32). -/
def HostOpAccepted : HostOp → Prop
  | .read off bytes => accessRefused off bytes = false
  | .write off bytes _ => accessRefused off bytes = false
  | .wait => True
  | .reset => True

/-- A safe run makes no refused access: every operation still to come is performed. -/
def State.Safe (s : State) : Prop := ∀ op ∈ s.inputs, HostOpAccepted op

/-- R51: `Legal(v)`, in the spec's own terms. -/
abbrev LegalWord (v : Word) : Prop :=
  v.extractLsb' 0 4 ≤ 5 ∧ v.extractLsb' 4 4 = 0 ∧ v.extractLsb' 24 8 = 0 ∧
    (v.extractLsb' 0 4 = 2 ∨ v.extractLsb' 8 16 = 0)

/-- The offsets of R36's `GUARDED`: 0x00 to 0x6C, and 0x74. -/
abbrev GuardedOffset (off : Offset) : Prop := off.toNat % 4 = 0 ∧ (off.toNat ≤ 0x6C ∨ off.toNat = 0x74)

/-- The offsets of R37's `OWNED`: 0x00 to 0x70, and 0xC0 to 0xFC. -/
abbrev OwnedOffset (off : Offset) : Prop := off.toNat % 4 = 0 ∧ (off.toNat ≤ 0x70 ∨ 0xC0 ≤ off.toNat)

/-- The reserved offsets of R29: 0x7C, and 0x90 to 0xBC. -/
abbrev ReservedOffset (off : Offset) : Prop :=
  off.toNat % 4 = 0 ∧ (off.toNat = 0x7C ∨ (0x90 ≤ off.toNat ∧ off.toNat ≤ 0xBC))

/-- Two engines that agree on everything but ERR and ERRCODE. -/
def SameButError (e e' : Engine) : Prop := e' = { e with ERR := e'.ERR, ERRCODE := e'.ERRCODE }

/-- Two states that agree on everything but ERR, ERRCODE and the words already returned to the host, which may be any. -/
structure SameStateButError (s s' : State) : Prop where
  engine : SameButError s.engine s'.engine
  inputs : s'.inputs = s.inputs
  draws : s'.draws = s.draws
  latLeft : s'.latLeft = s.latLeft

/-- No completion is due, so the next step performs the host's next operation. -/
def NotDue (s : State) : Prop := s.latLeft = 0 → s.engine.PEND = none

/-- The next event is `op`: it heads the queue, `rest` follows it, and no completion is due. -/
structure Next (s : State) (op : HostOp) (rest : List HostOp) : Prop where
  notDue : NotDue s
  inputs : s.inputs = op :: rest

/-- The next event reads STATUS: a read of offset 0x78, or a poll of `wait`. -/
def NextReadsStatus (s : State) : Prop := ∃ rest, Next s (.read 0x78 4) rest ∨ Next s .wait rest

/-- The completion of the pending command `i` is the next event. -/
structure Due (s : State) (i : Instr) : Prop where
  pending : s.engine.PEND = some i
  latency : s.latLeft = 0

/-- The state that the event of a step sees: one step of latency has passed and the operation has left the queue. -/
def State.popped (s : State) (rest : List HostOp) : State := { s.tick with inputs := rest }

/-- R63 on four words: the source's sequence, each line reading the words the lines before it left. -/
def quarterWords (a b c d : Word) : Word × Word × Word × Word :=
  let a := a + b; let d := d ^^^ a; let d := d.rotateLeft 16
  let c := c + d; let b := b ^^^ c; let b := b.rotateLeft 12
  let a := a + b; let d := d ^^^ a; let d := d.rotateLeft 8
  let c := c + d; let b := b ^^^ c; let b := b.rotateLeft 7
  (a, b, c, d)

/-- `T` is `S` with one quarter-round applied to the words at the four slots: their new words are `quarterWords` of the
old ones. Nothing is said of the other twelve. -/
def QuarterRounded (S T : Block) (a b c d : Slot) : Prop :=
  (T[a], T[b], T[c], T[d]) = quarterWords S[a] S[b] S[c] S[d]

/-- R12: the four words of column k. -/
def ColumnMixed (S T : Block) (k : Fin 4) : Prop :=
  QuarterRounded S T ⟨k.val, by omega⟩ ⟨k.val + 4, by omega⟩ ⟨k.val + 8, by omega⟩ ⟨k.val + 12, by omega⟩

/-- R65: the four words of diagonal k, row r from column (k + r) mod 4. -/
def DiagonalMixed (S T : Block) (k : Fin 4) : Prop :=
  QuarterRounded S T ⟨k.val, by omega⟩ ⟨4 + (k.val + 1) % 4, by omega⟩ ⟨8 + (k.val + 2) % 4, by omega⟩
    ⟨12 + (k.val + 3) % 4, by omega⟩

/-- `DoubleRounded S T`: T is S after one column pass and then one diagonal pass (R67). -/
def DoubleRounded (S T : Block) : Prop := ∃ M : Block, (∀ k, ColumnMixed S M k) ∧ ∀ k, DiagonalMixed M T k

/-- `n` double-rounds one after another (R68). -/
def DoubleRoundedTimes : Nat → Block → Block → Prop
  | 0, S, T => S = T
  | n + 1, S, T => ∃ M, DoubleRounded S M ∧ DoubleRoundedTimes n M T

end Sys2Proof.Machine
end

