-- ==== Sys2Proof/Certificates/Slice0/Obligations.lean ====
section
/-! DEFINITION. The statements for the provers, each a numbered rule R<n> of spec/ or derived from the sections its entry
in OBLIGATIONS.json cites. Every statement about a command's effect gives the whole next state as a record update, so
that it states the frame as well: whatever the update does not name is unchanged. The fields `inputs`, `returned`,
`draws` and `latLeft` of a state are the model's own (logs 1, 2, 3 and 9), and so are `Config.lat` and
`Config.busyRead`, the free values LAT and BUSY_READ of R7 (logs 2 and 3): what a statement says of them is the
model's choice of how to hold them, and no value of theirs is used. -/

open Sys2Proof Sys2Proof.Machine

/-! ## Encoding -/

/-- R49, R55, R70: words written out from the encoding decode to the commands they stand for. -/
def Obligations.TableWordsDecode : Prop :=
  decode 0x00000000 = .ok .nop ∧ decode 0x00000001 = .ok .init ∧ decode 0x00321002 = .ok (.qr 0 1 2 3) ∧
  decode 0x00d87202 = .ok (.qr 2 7 8 13) ∧ decode 0x00000003 = .ok .dround ∧ decode 0x00000004 = .ok .block ∧
  decode 0x00000005 = .ok .clrin ∧ decode 0x00000006 = .error .reservedOpcode ∧
  decode 0x00321012 = .error .rsv0Set ∧ decode 0x01321002 = .error .rsv1Set ∧ decode 0x00000103 = .error .indexBitsSet

/-- R48 to R50: every command, with every operand, is read back from its word. -/
def Obligations.DecodeOfEncodeIsTheCommand : Prop := ∀ i : Instr, decode (encode i) = .ok i

/-- R48 to R51: a word has one meaning: the word of the command decoded from it is that word. -/
def Obligations.EncodeOfDecodeIsTheWord : Prop := ∀ (v : Word) (i : Instr), decode v = .ok i → encode i = v

/-- R51: the words that decode are exactly the legal ones, and an illegal one records ILLEGAL_CMD at issue and does
nothing else. -/
def Obligations.LegalWordsAreTheCommands : Prop :=
  (∀ v : Word, (∃ i, decode v = .ok i) ↔ LegalWord v) ∧
  ∀ (v : Word) (s : State), ¬ LegalWord v →
    issue v s = .next { s with engine := s.engine.raiseError .illegalCmd }

/-- R53: the checks at issue, in their order, and acceptance. `lat` and `draws` are the model's latency (log 2). -/
def Obligations.IssueChecksInOrder : Prop :=
  ∀ (v : Word) (s : State), s.engine.idle →
    let raised (c : ErrorCode) : Host.Outcome State Fault Refusal :=
      .next { s with engine := s.engine.raiseError c }
    (¬ LegalWord v → issue v s = raised .illegalCmd) ∧
    (v = 0 → issue v s = .next s) ∧
    (v = 1 → (∃ j : Fin 8, s.engine.KV.getLsbD j = false) → issue v s = raised .keyLength) ∧
    (v = 1 → (∀ j : Fin 8, s.engine.KV.getLsbD j = true) → (∃ j : Fin 3, s.engine.NV.getLsbD j = false) →
      issue v s = raised .nonceLength) ∧
    (LegalWord v → v.extractLsb' 0 4 = 2 →
      ¬ [v.extractLsb' 8 4, v.extractLsb' 12 4, v.extractLsb' 16 4, v.extractLsb' 20 4].Nodup →
      issue v s = raised .qrAlias) ∧
    (LegalWord v → v ≠ 0 →
      (v = 1 → (∀ j : Fin 8, s.engine.KV.getLsbD j = true) ∧ ∀ j : Fin 3, s.engine.NV.getLsbD j = true) →
      (v.extractLsb' 0 4 = 2 →
        [v.extractLsb' 8 4, v.extractLsb' 12 4, v.extractLsb' 16 4, v.extractLsb' 20 4].Nodup) →
      ∃ i, encode i = v ∧
        issue v s = .next { s with
          engine := { s.engine with PEND := some i, BUSY := true }
          latLeft := Config.lat s.draws i
          draws := s.draws + 1 })

/-! ## The step -/

/-- R34, R53, R92: a word written to CMD while the engine is idle runs the command it decodes to, and a completion runs
the pending command. That `exec` is a command's issue and its completion, one or the other, is the model's choice (log 6).
So is the third clause, which follows no rule: `withFetchWord` frees the engine and places a word so that the next step
runs its command, which is then issued and not completed (log 7). -/
def Obligations.StepRunsTheDecodedCommand : Prop :=
  (∀ (s : State) (v : Word) (rest : List HostOp) (i : Instr),
    s.engine.idle → s.inputs = .write 0x74 4 v :: rest → decode v = .ok i →
    step s = exec i { s with inputs := rest, latLeft := s.latLeft - 1 }) ∧
  (∀ (s : State) (i : Instr), Due s i → step s = exec i s) ∧
  ∀ (s : State) (nbits w : Nat) (i : Instr), decodeTableWord nbits w = some i →
    step (s.withFetchWord nbits w) =
      exec i { s with engine := { s.engine with PEND := none, BUSY := false }, latLeft := s.latLeft - 1 }

/-- R88: with no command pending and no access, the engine holds all of its state. That such a moment is a step is the
model's choice (log 12). -/
def Obligations.IdleEngineHoldsItsState : Prop :=
  ∀ s : State, s.engine.PEND = none → s.inputs = [] →
    step s = .next { s with latLeft := s.latLeft - 1 }

/-- R56 `wait`: one poll reads STATUS, whose word is that of R21 and R33, and the loop goes on exactly while BUSY is 1.
That `wait` is one host operation, and that each poll's word is recorded in `returned`, are the model's choices (log 9). -/
def Obligations.WaitPollsUntilIdle : Prop :=
  ∀ (s : State) (rest : List HostOp), Next s .wait rest →
    let e := s.engine
    step s = .next { s with
      inputs := if e.BUSY then .wait :: rest else rest
      latLeft := s.latLeft - 1
      returned := BitVec.ofNat 32 (e.ERRCODE.toNat * 16 + e.ERR.toNat * 2 + e.BUSY.toNat) :: s.returned }

/-! ## The commands -/

/-- R57: INIT: its word, its checks at issue, acceptance, its effect at completion, and the two errors that any command
word can meet. -/
def Obligations.InitBuildsTheState : Prop :=
  encode .init = 0x00000001 ∧
  (∀ s : State, s.engine.idle → (∃ j : Fin 8, s.engine.KV.getLsbD j = false) →
    exec .init s = .next { s with engine := s.engine.raiseError .keyLength }) ∧
  (∀ s : State, s.engine.idle → (∀ j : Fin 8, s.engine.KV.getLsbD j = true) →
    (∃ j : Fin 3, s.engine.NV.getLsbD j = false) →
    exec .init s = .next { s with engine := s.engine.raiseError .nonceLength }) ∧
  (∀ s : State, s.engine.idle → (∀ j : Fin 8, s.engine.KV.getLsbD j = true) →
    (∀ j : Fin 3, s.engine.NV.getLsbD j = true) →
    exec .init s = .next { s with
      engine := { s.engine with PEND := some .init, BUSY := true }
      latLeft := Config.lat s.draws .init
      draws := s.draws + 1 }) ∧
  (∀ s : State, s.engine.PEND = some .init →
    exec .init s = .next { s with engine := { s.engine with
      S := #v[0x61707865, 0x3320646e, 0x79622d32, 0x6b206574,
        s.engine.K[0], s.engine.K[1], s.engine.K[2], s.engine.K[3],
        s.engine.K[4], s.engine.K[5], s.engine.K[6], s.engine.K[7],
        s.engine.CTR, s.engine.N[0], s.engine.N[1], s.engine.N[2]]
      PEND := none
      BUSY := false } }) ∧
  (∀ (s : State) (v : Word), s.engine.idle → v.extractLsb' 0 4 = 1 → v ≠ 1 →
    issue v s = .next { s with engine := s.engine.raiseError .illegalCmd }) ∧
  ∀ s : State, s.engine.BUSY = true →
    regWrite 0x74 0x00000001 s = .next { s with engine := s.engine.raiseError .busyWrite }

/-- R58: when key and nonce are both short, INIT reports KEY_LENGTH. -/
def Obligations.InitReportsTheKeyFirst : Prop :=
  ∀ s : State, s.engine.idle → s.engine.ERR = false →
    (∃ j : Fin 8, s.engine.KV.getLsbD j = false) → (∃ j : Fin 3, s.engine.NV.getLsbD j = false) →
    exec .init s = .next { s with engine := { s.engine with ERR := true, ERRCODE := 1 } }

/-- R59: CLRIN. -/
def Obligations.ClrinClearsTheLatches : Prop :=
  encode .clrin = 0x00000005 ∧
  (∀ s : State, s.engine.idle →
    exec .clrin s = .next { s with
      engine := { s.engine with PEND := some .clrin, BUSY := true }
      latLeft := Config.lat s.draws .clrin
      draws := s.draws + 1 }) ∧
  (∀ s : State, s.engine.PEND = some .clrin →
    exec .clrin s = .next { s with engine := { s.engine with
      K := #v[0, 0, 0, 0, 0, 0, 0, 0]
      KV := 0
      N := #v[0, 0, 0]
      NV := 0
      CTR := 0
      PEND := none
      BUSY := false } }) ∧
  (∀ (s : State) (v : Word), s.engine.idle → v.extractLsb' 0 4 = 5 → v.extractLsb' 4 28 ≠ 0 →
    issue v s = .next { s with engine := s.engine.raiseError .illegalCmd }) ∧
  (∀ s : State, s.engine.BUSY = true →
    regWrite 0x74 0x00000005 s = .next { s with engine := s.engine.raiseError .busyWrite }) ∧
  ∀ s t : State, s.engine.PEND = some .clrin → exec .clrin s = .next t →
    exec .init t = .next { t with engine := t.engine.raiseError .keyLength }

/-- R60: NOP. -/
def Obligations.NopChangesNothing : Prop :=
  encode .nop = 0x00000000 ∧
  (∀ s : State, s.engine.idle → exec .nop s = .next s) ∧
  (∀ (s : State) (v : Word), s.engine.idle → v.extractLsb' 0 4 = 0 → v.extractLsb' 4 28 ≠ 0 →
    issue v s = .next { s with engine := s.engine.raiseError .illegalCmd }) ∧
  ∀ s : State, s.engine.BUSY = true →
    regWrite 0x74 0x00000000 s = .next { s with engine := s.engine.raiseError .busyWrite }

/-- R70: QR on four slots: its word, at issue, at completion, where the four words become those of the source's sequence
and no other word changes, and the two errors that any command word can meet. -/
def Obligations.QrMixesItsFourSlots : Prop :=
  (∀ a b c d : Slot, encode (.qr a b c d) =
    BitVec.ofNat 32 (2 + a.val * 2 ^ 8 + b.val * 2 ^ 12 + c.val * 2 ^ 16 + d.val * 2 ^ 20)) ∧
  (∀ (s : State) (a b c d : Slot), s.engine.idle → ¬ [a, b, c, d].Nodup →
    exec (.qr a b c d) s = .next { s with engine := s.engine.raiseError .qrAlias }) ∧
  (∀ (s : State) (a b c d : Slot), s.engine.idle → [a, b, c, d].Nodup →
    exec (.qr a b c d) s = .next { s with
      engine := { s.engine with PEND := some (.qr a b c d), BUSY := true }
      latLeft := Config.lat s.draws (.qr a b c d)
      draws := s.draws + 1 }) ∧
  (∀ (s : State) (a b c d : Slot), s.engine.PEND = some (.qr a b c d) → [a, b, c, d].Nodup →
    ∃ T : Block, exec (.qr a b c d) s =
        .next { s with engine := { s.engine with S := T, PEND := none, BUSY := false } } ∧
      QuarterRounded s.engine.S T a b c d ∧ ∀ i : Slot, i ∉ [a, b, c, d] → T[i] = s.engine.S[i]) ∧
  (∀ (s : State) (v : Word), s.engine.idle → v.extractLsb' 0 4 = 2 →
    v.extractLsb' 4 4 ≠ 0 ∨ v.extractLsb' 24 8 ≠ 0 →
    issue v s = .next { s with engine := s.engine.raiseError .illegalCmd }) ∧
  ∀ (s : State) (a b c d : Slot), s.engine.BUSY = true →
    regWrite 0x74 (encode (.qr a b c d)) s = .next { s with engine := s.engine.raiseError .busyWrite }

/-- R71, R67: DROUND: its word, acceptance, the two errors that any command word can meet, and at completion a column pass and then a diagonal pass, each of four quarter-rounds
on its own groups (R64, R65). -/
def Obligations.DroundMixesColumnsThenDiagonals : Prop :=
  encode .dround = 0x00000003 ∧
  (∀ s : State, s.engine.idle →
    exec .dround s = .next { s with
      engine := { s.engine with PEND := some .dround, BUSY := true }
      latLeft := Config.lat s.draws .dround
      draws := s.draws + 1 }) ∧
  (∀ s : State, s.engine.PEND = some .dround →
    ∃ T : Block, exec .dround s =
        .next { s with engine := { s.engine with S := T, PEND := none, BUSY := false } } ∧
      DoubleRounded s.engine.S T) ∧
  (∀ (s : State) (v : Word), s.engine.idle → v.extractLsb' 0 4 = 3 → v.extractLsb' 4 28 ≠ 0 →
    issue v s = .next { s with engine := s.engine.raiseError .illegalCmd }) ∧
  ∀ s : State, s.engine.BUSY = true →
    regWrite 0x74 0x00000003 s = .next { s with engine := s.engine.raiseError .busyWrite }

/-- R72, R68: BLOCK: its word, acceptance, the two errors that any command word can meet, and at completion the snapshot in O, ten double-rounds and the feed-forward. -/
def Obligations.BlockMakesTheKeystreamBlock : Prop :=
  encode .block = 0x00000004 ∧
  (∀ s : State, s.engine.idle →
    exec .block s = .next { s with
      engine := { s.engine with PEND := some .block, BUSY := true }
      latLeft := Config.lat s.draws .block
      draws := s.draws + 1 }) ∧
  (∀ s : State, s.engine.PEND = some .block →
    ∃ M T : Block, exec .block s =
        .next { s with engine := { s.engine with O := s.engine.S, S := T, PEND := none, BUSY := false } } ∧
      DoubleRoundedTimes 10 s.engine.S M ∧ ∀ i : Slot, T[i] = M[i] + s.engine.S[i]) ∧
  (∀ (s : State) (v : Word), s.engine.idle → v.extractLsb' 0 4 = 4 → v.extractLsb' 4 28 ≠ 0 →
    issue v s = .next { s with engine := s.engine.raiseError .illegalCmd }) ∧
  ∀ s : State, s.engine.BUSY = true →
    regWrite 0x74 0x00000004 s = .next { s with engine := s.engine.raiseError .busyWrite }

/-! ## The permutation -/

/-- R61: the four rotations as concatenations of slices. -/
def Obligations.RotationsAreTheSlices : Prop :=
  ∀ x : Word,
    rotl x 16 = x.extractLsb' 0 16 ++ x.extractLsb' 16 16 ∧ rotl x 12 = x.extractLsb' 0 20 ++ x.extractLsb' 20 12 ∧
    rotl x 8 = x.extractLsb' 0 24 ++ x.extractLsb' 24 8 ∧ rotl x 7 = x.extractLsb' 0 25 ++ x.extractLsb' 25 7

/-- R66: each slot lies in one column group and one diagonal group; the quarter-rounds of one pass give the same result
in any order; and the two passes do not commute. The spec marks R66 as its own inference from R63, R64 and R65. -/
def Obligations.QuarterRoundsOfAPassCommute : Prop :=
  let columns : List (Slot × Slot × Slot × Slot) := [(0, 4, 8, 12), (1, 5, 9, 13), (2, 6, 10, 14), (3, 7, 11, 15)]
  let diagonals : List (Slot × Slot × Slot × Slot) := [(0, 5, 10, 15), (1, 6, 11, 12), (2, 7, 8, 13), (3, 4, 9, 14)]
  let slots (gs : List (Slot × Slot × Slot × Slot)) : List Slot := gs.flatMap fun g => [g.1, g.2.1, g.2.2.1, g.2.2.2]
  let run (gs : List (Slot × Slot × Slot × Slot)) (S : Block) : Block :=
    gs.foldl (fun S g => quarterRound S g.1 g.2.1 g.2.2.1 g.2.2.2) S
  (∀ i : Slot, (slots columns).count i = 1 ∧ (slots diagonals).count i = 1) ∧
  (∀ gs, gs.Perm columns → ∀ S, run gs S = columnPass S) ∧
  (∀ gs, gs.Perm diagonals → ∀ S, run gs S = diagonalPass S) ∧
  ∃ S, diagonalPass (columnPass S) ≠ columnPass (diagonalPass S)

/-- R69 (a), (d): zero is a fixed point, so not every double-round changes every word; on the states INIT builds in the
spec's vectors V-INIT-1 and V-INIT-2 it does. -/
def Obligations.ZeroBlockIsAFixedPoint : Prop :=
  let zero : Block := Vector.replicate 16 0
  (∀ a b c d : Slot, [a, b, c, d].Nodup → quarterRound zero a b c d = zero) ∧
  doubleRound zero = zero ∧ blockWords zero = zero ∧
  (∀ i : Slot, (doubleRound (initBlock (Vector.replicate 8 0) 0 (Vector.replicate 3 0)))[i] ≠
    (initBlock (Vector.replicate 8 0) 0 (Vector.replicate 3 0))[i]) ∧
  ∀ i : Slot,
    let S := initBlock #v[0x03020100, 0x07060504, 0x0b0a0908, 0x0f0e0d0c, 0x13121110, 0x17161514, 0x1b1a1918, 0x1f1e1d1c]
      1 #v[0x09000000, 0x4a000000, 0]
    (doubleRound S)[i] ≠ S[i]

/-- R69 (b): a quarter-round on distinct slots and a double-round lose nothing. -/
def Obligations.RoundsAreBijections : Prop :=
  (∀ a b c d : Slot, [a, b, c, d].Nodup → Function.Bijective fun S : Block => quarterRound S a b c d) ∧
  Function.Bijective doubleRound

/-! ## The register window -/

/-- R33: the value each offset reads as; the engine is unchanged, and only a read of an OWNED offset while BUSY is 1
(R37) is a free draw. -/
def Obligations.RegReadFollowsTheMap : Prop :=
  ∀ (s : State) (off : Offset) (rest : List HostOp), Next s (.read off 4) rest →
    let e := s.engine
    let reads (v : Word) : Prop :=
      step s = .next { s with inputs := rest, latLeft := s.latLeft - 1, returned := v :: s.returned }
    (e.BUSY = true → OwnedOffset off →
      step s = .next { s with
        inputs := rest, latLeft := s.latLeft - 1, returned := Config.busyRead s.draws :: s.returned,
        draws := s.draws + 1 }) ∧
    (e.BUSY = false →
      (∀ i : Fin 16, off.toNat = 4 * i → reads e.S[i]) ∧
      (∀ j : Fin 8, off.toNat = 0x40 + 4 * j → reads e.K[j]) ∧
      (off = 0x60 → reads e.CTR) ∧
      (∀ j : Fin 3, off.toNat = 0x64 + 4 * j → reads e.N[j]) ∧
      (off = 0x70 → reads (BitVec.ofNat 32 (e.NV.toNat * 256 + e.KV.toNat))) ∧
      (∀ i : Fin 16, off.toNat = 0xC0 + 4 * i → reads e.O[i])) ∧
    (off = 0x74 → reads 0) ∧
    (off = 0x78 → reads (BitVec.ofNat 32 (e.ERRCODE.toNat * 16 + e.ERR.toNat * 2 + e.BUSY.toNat))) ∧
    (∀ i : Fin 4, off.toNat = 0x80 + 4 * i →
      reads ([0x61707865, 0x3320646e, 0x79622d32, 0x6b206574].getD i 0)) ∧
    (ReservedOffset off → reads 0)

/-- R34: what a write to each offset does. -/
def Obligations.RegWriteFollowsTheMap : Prop :=
  ∀ (s : State) (off : Offset) (v : Word) (rest : List HostOp), Next s (.write off 4 v) rest →
    let e := s.engine
    let becomes (e' : Engine) : Prop := step s = .next { s with engine := e', inputs := rest, latLeft := s.latLeft - 1 }
    (e.BUSY = true → GuardedOffset off → becomes (e.raiseError .busyWrite)) ∧
    (e.BUSY = false →
      (∀ i : Fin 16, off.toNat = 4 * i → becomes { e with S := e.S.set i v }) ∧
      (∀ j : Fin 8, off.toNat = 0x40 + 4 * j →
        ∃ kv : BitVec 8, (∀ k : Fin 8, kv.getLsbD k = (k = j || e.KV.getLsbD k)) ∧
          becomes { e with K := e.K.set j v, KV := kv }) ∧
      (off = 0x60 → becomes { e with CTR := v }) ∧
      (∀ j : Fin 3, off.toNat = 0x64 + 4 * j →
        ∃ nv : BitVec 3, (∀ k : Fin 3, nv.getLsbD k = (k = j || e.NV.getLsbD k)) ∧
          becomes { e with N := e.N.set j v, NV := nv }) ∧
      (off = 0x74 → step s = issue v { s with inputs := rest, latLeft := s.latLeft - 1 })) ∧
    (off = 0x78 → becomes (if v.getLsbD 1 then { e with ERR := false, ERRCODE := 0 } else e)) ∧
    (off = 0x70 ∨ (0x80 ≤ off.toNat ∧ off.toNat ≤ 0x8C ∧ off.toNat % 4 = 0) ∨
      (0xC0 ≤ off.toNat ∧ off.toNat % 4 = 0) ∨ ReservedOffset off → becomes e)

/-- R35: read-only and reserved offsets ignore writes whatever BUSY is; CMD and reserved offsets read 0; the reserved
bits of STATUS and LATCHV read 0, and a write to STATUS acts by its bit 1 alone. -/
def Obligations.ReservedAndReadOnlyIgnoreWrites : Prop :=
  (∀ (s : State) (off : Offset) (v : Word) (rest : List HostOp), Next s (.write off 4 v) rest →
    (off = 0x70 ∨ (0x80 ≤ off.toNat ∧ off.toNat ≤ 0x8C ∧ off.toNat % 4 = 0) ∨
      (0xC0 ≤ off.toNat ∧ off.toNat % 4 = 0) ∨ ReservedOffset off) →
    step s = .next { s with inputs := rest, latLeft := s.latLeft - 1 }) ∧
  (∀ (s : State) (off : Offset) (rest : List HostOp), Next s (.read off 4) rest →
    off = 0x74 ∨ ReservedOffset off →
    step s = .next { s with inputs := rest, latLeft := s.latLeft - 1, returned := 0 :: s.returned }) ∧
  (∀ (s : State) (k : Nat), k = 2 ∨ k = 3 ∨ 8 ≤ k → (regReadValue 0x78 s).getLsbD k = false) ∧
  (∀ (s : State) (k : Nat), s.engine.BUSY = false → 11 ≤ k → (regReadValue 0x70 s).getLsbD k = false) ∧
  ∀ (s : State) (v w : Word), v.getLsbD 1 = w.getLsbD 1 → regWrite 0x78 v s = regWrite 0x78 w s

/-- R36: a write to a guarded offset while BUSY is 1 is dropped whole and records BUSY_WRITE; the pending command goes
on; a write to STATUS takes effect. -/
def Obligations.BusyWritesAreDropped : Prop :=
  ∀ (s : State) (off : Offset) (v : Word) (rest : List HostOp), Next s (.write off 4 v) rest → s.engine.BUSY = true →
    (GuardedOffset off → s.engine.ERR = false →
      step s = .next { s with
        engine := { s.engine with ERR := true, ERRCODE := 5 }, inputs := rest, latLeft := s.latLeft - 1 }) ∧
    (GuardedOffset off → s.engine.ERR = true →
      step s = .next { s with inputs := rest, latLeft := s.latLeft - 1 }) ∧
    (off = 0x78 →
      step s = .next { s with
        engine := if v.getLsbD 1 then { s.engine with ERR := false, ERRCODE := 0 } else s.engine
        inputs := rest, latLeft := s.latLeft - 1 })

/-- R37: two reads of owned offsets, one after the other while BUSY is 1, return two different draws. -/
def Obligations.BusyReadsAreFreshDraws : Prop :=
  ∀ (s : State) (off off' : Offset) (rest : List HostOp), Next s (.read off 4) (.read off' 4 :: rest) →
    s.engine.BUSY = true → OwnedOffset off → OwnedOffset off' → 2 ≤ s.latLeft →
    Host.Core.run core 2 s = .next { s with
      inputs := rest, latLeft := s.latLeft - 2, draws := s.draws + 2
      returned := Config.busyRead (s.draws + 1) :: Config.busyRead s.draws :: s.returned }

/-- R31, R32: an access is refused exactly when it is not 32 bits wide, misaligned, or past the window's end; a refused
one is a bus error, and any other is performed. R32 says that a model treats a bus error as a fault; that the fault carries
the offset and the uninterpreted `Config.busErr`, and that the run ends there, are the model's choices (log 5). -/
def Obligations.RefusedAccessesAreBusErrors : Prop :=
  ∀ (s : State) (off : Offset) (bytes : Nat) (v : Word) (rest : List HostOp),
    let refused : Prop := bytes ≠ 4 ∨ off.toNat % 4 ≠ 0 ∨ 256 < off.toNat + bytes
    (Next s (.read off bytes) rest →
      (refused → step s = .fault (.busError off (Config.busErr off bytes))) ∧ (¬ refused → ∃ t, step s = .next t)) ∧
    (Next s (.write off bytes v) rest →
      (refused → step s = .fault (.busError off (Config.busErr off bytes))) ∧ (¬ refused → ∃ t, step s = .next t))

/-- R7, R28: BASE is aligned to 256 bytes, every offset has one bus address, an access at a bus address of the window is
the operation at its offset, and an access at any other address is no operation of the engine. That BASE is uninterpreted
and that operations name offsets are the model's choices, and that an access outside the window does not reach the engine
is its deduction (log 4). -/
def Obligations.WindowHoldsItsBusAddresses : Prop :=
  256 ∣ Config.base ∧ (∀ off : Offset, windowOffset (busAddress off) = some off) ∧
  (∀ (addr : Nat) (off : Offset), windowOffset addr = some off → busAddress off = addr) ∧
  (∀ addr : Nat, windowOffset addr = none ↔ addr < Config.base ∨ Config.base + 256 ≤ addr) ∧
  (∀ (addr bytes : Nat) (v : Word), Config.base ≤ addr → addr < Config.base + 256 →
    ∃ off : Offset, addr = Config.base + off.toNat ∧
      busReadOp addr bytes = some (.read off bytes) ∧ busWriteOp addr bytes v = some (.write off bytes v)) ∧
  ∀ (addr bytes : Nat) (v : Word), addr < Config.base ∨ Config.base + 256 ≤ addr →
    busReadOp addr bytes = none ∧ busWriteOp addr bytes v = none

/-- R39: writing the same value twice to any offset but CMD is the same as writing it once. -/
def Obligations.RepeatedWritesAreIdempotent : Prop :=
  ∀ (s t : State) (off : Offset) (v : Word), off.toNat % 4 = 0 → off ≠ 0x74 →
    regWrite off v s = .next t → regWrite off v t = .next t

/-- R41, R42: the host's packing of key and nonce and its serialisation of the keystream are little-endian. -/
def Obligations.HostPackingIsLittleEndian : Prop :=
  (∀ (k : Vector Byte 32) (j : Fin 8), (packKey k)[j] =
    (k[4 * j.val]).setWidth 32 ||| ((k[4 * j.val + 1]).setWidth 32 <<< 8) |||
      ((k[4 * j.val + 2]).setWidth 32 <<< 16) ||| ((k[4 * j.val + 3]).setWidth 32 <<< 24)) ∧
  (∀ (n : Vector Byte 12) (j : Fin 3), (packNonce n)[j] =
    (n[4 * j.val]).setWidth 32 ||| ((n[4 * j.val + 1]).setWidth 32 <<< 8) |||
      ((n[4 * j.val + 2]).setWidth 32 <<< 16) ||| ((n[4 * j.val + 3]).setWidth 32 <<< 24)) ∧
  ∀ (S : Block) (i : Slot) (b : Fin 4) (m : Fin 8),
    ((keystreamBytes S)[4 * i.val + b.val]).getLsbD m = S[i].getLsbD (8 * b + m)

/-! ## Errors and reset -/

/-- R75: raising an error keeps the first one and changes nothing but ERR and ERRCODE; the codes are those of R73. -/
def Obligations.FirstErrorIsKept : Prop :=
  (∀ (e : Engine) (c : ErrorCode), e.ERR = false →
    e.raiseError c = { e with ERR := true, ERRCODE := errorCodeBits c }) ∧
  (∀ (e : Engine) (c : ErrorCode), e.ERR = true → e.raiseError c = e) ∧
  errorCodeBits .keyLength = 1 ∧ errorCodeBits .nonceLength = 2 ∧ errorCodeBits .illegalCmd = 3 ∧
  errorCodeBits .qrAlias = 4 ∧ errorCodeBits .busyWrite = 5

/-- R76: a write to STATUS with bit 1 clears the error, reset clears it, and nothing else clears or replaces it. -/
def Obligations.ErrorsStayUntilCleared : Prop :=
  (∀ (s t : State) (v : Word) (rest : List HostOp), Next s (.write 0x78 4 v) rest → v.getLsbD 1 = true →
    step s = .next t → t.engine.ERR = false ∧ t.engine.ERRCODE = 0) ∧
  (∀ (s t : State) (rest : List HostOp), Next s .reset rest → step s = .next t →
    t.engine.ERR = false ∧ t.engine.ERRCODE = 0) ∧
  ∀ s t : State, step s = .next t → s.engine.ERR = true →
    (t.engine.ERR = true ∧ t.engine.ERRCODE = s.engine.ERRCODE) ∨
    (∃ v rest, Next s (.write 0x78 4 v) rest ∧ v.getLsbD 1 = true) ∨ ∃ rest, Next s .reset rest

/-- R73: a step that records an error is a host write that has the error's condition; it records that code and changes
nothing else of the engine. -/
def Obligations.RecordedErrorsHaveTheirCause : Prop :=
  ∀ s t : State, s.engine.Inv → step s = .next t → s.engine.ERR = false → t.engine.ERR = true →
    SameButError s.engine t.engine ∧
    ∃ off v rest, Next s (.write off 4 v) rest ∧
      ((t.engine.ERRCODE = 1 ∧ off = 0x74 ∧ s.engine.BUSY = false ∧ v = 1 ∧
          ∃ j : Fin 8, s.engine.KV.getLsbD j = false) ∨
        (t.engine.ERRCODE = 2 ∧ off = 0x74 ∧ s.engine.BUSY = false ∧ v = 1 ∧
          (∀ j : Fin 8, s.engine.KV.getLsbD j = true) ∧ ∃ j : Fin 3, s.engine.NV.getLsbD j = false) ∨
        (t.engine.ERRCODE = 3 ∧ off = 0x74 ∧ s.engine.BUSY = false ∧ ¬ LegalWord v) ∨
        (t.engine.ERRCODE = 4 ∧ off = 0x74 ∧ s.engine.BUSY = false ∧ LegalWord v ∧ v.extractLsb' 0 4 = 2 ∧
          ¬ [v.extractLsb' 8 4, v.extractLsb' 12 4, v.extractLsb' 16 4, v.extractLsb' 20 4].Nodup) ∨
        (t.engine.ERRCODE = 5 ∧ s.engine.BUSY = true ∧ GuardedOffset off))

/-- R77: an error that stands changes nothing about what the engine does: from two states that agree but for ERR and
ERRCODE and hold any words already returned, the step does the same and leaves two such states. It returns the same word,
if any, except that two reads of STATUS may differ in ERR (bit 1) and ERRCODE (bits 7:4). The relation is one that every
step keeps. The list of returned words is the model's (log 9), and so is the fault of a refused access (log 5). -/
def Obligations.ErrorDoesNotBlockTheEngine : Prop :=
  ∀ s s' : State, SameStateButError s s' →
    (∀ t : State, step s = .next t → ∃ t' : State, step s' = .next t' ∧ SameStateButError t t' ∧
      ∃ new new' : List Word, t.returned = new ++ s.returned ∧ t'.returned = new' ++ s'.returned ∧
        (new = new' ∨ (NextReadsStatus s ∧ ∃ v v' : Word, new = [v] ∧ new' = [v'] ∧
          ∀ k : Nat, k ≠ 1 → k < 4 ∨ 8 ≤ k → v.getLsbD k = v'.getLsbD k))) ∧
    ∀ f : Fault, step s = .fault f → step s' = .fault f

/-- R89: the reset values, and the reset input as the next event of any state: a pending command is abandoned. That the
reset input is one operation, that the host's later operations and what reads returned stay, and that `latLeft` becomes 0
are the model's choices (log 10). -/
def Obligations.ResetGivesTheResetValues : Prop :=
  State.reset.engine =
    { S := #v[0, 0, 0, 0, 0, 0, 0, 0, 0, 0, 0, 0, 0, 0, 0, 0], K := #v[0, 0, 0, 0, 0, 0, 0, 0], KV := 0,
      N := #v[0, 0, 0], NV := 0, CTR := 0, O := #v[0, 0, 0, 0, 0, 0, 0, 0, 0, 0, 0, 0, 0, 0, 0, 0], BUSY := false,
      ERR := false, ERRCODE := 0, PEND := none } ∧
  ∀ (s : State) (rest : List HostOp), Next s .reset rest →
    step s = .next { s with engine := State.reset.engine, inputs := rest, latLeft := 0 }

/-! ## The whole machine -/

/-- R23, R21, R73: the invariant holds right after reset. -/
def Obligations.InvariantHoldsAtReset : Prop := State.reset.engine.Inv

/-- R23, R21, R73: every step keeps the invariant. -/
def Obligations.StepKeepsTheInvariant : Prop :=
  ∀ s t : State, s.engine.Inv → step s = .next t → t.engine.Inv

/-- R21: BUSY is set by the acceptance of a command alone, and cleared by its completion or by reset alone. -/
def Obligations.BusyChangesByAcceptanceAndCompletion : Prop :=
  ∀ s t : State, s.engine.Inv → step s = .next t →
    (s.engine.BUSY = false → t.engine.BUSY = true →
      ∃ v rest i, Next s (.write 0x74 4 v) rest ∧ decode v = .ok i ∧ t.engine.PEND = some i) ∧
    (s.engine.BUSY = true → t.engine.BUSY = false → (∃ i, Due s i) ∨ ∃ rest, Next s .reset rest)

/-- R36, R95: while a command is pending, before it completes and without a reset, nothing of the engine changes but ERR
and ERRCODE: INIT finds the latches as they were at its issue. -/
def Obligations.PendingCommandIsUndisturbed : Prop :=
  ∀ (s t : State) (i : Instr), s.engine.Inv → s.engine.PEND = some i → 0 < s.latLeft →
    (∀ rest, s.inputs ≠ .reset :: rest) → step s = .next t →
    SameButError s.engine t.engine ∧ t.latLeft = s.latLeft - 1

/-- R13: the state words change only by a host write while BUSY is 0, by the completion of INIT, QR, DROUND or BLOCK, and
by reset. -/
def Obligations.StateWordsChangeOnlyAsListed : Prop :=
  ∀ s t : State, s.engine.Inv → step s = .next t → t.engine.S ≠ s.engine.S →
    (∃ (i : Fin 16) (off : Offset) (v : Word) (rest : List HostOp), off.toNat = 4 * i ∧ Next s (.write off 4 v) rest ∧
      s.engine.BUSY = false ∧ t.engine.S = s.engine.S.set i v) ∨
    (∃ i, Due s i ∧ i ≠ .nop ∧ i ≠ .clrin) ∨ ∃ rest, Next s .reset rest

/-- R16, R17, R18: the latches change only by a host write to them while BUSY is 0, by the completion of CLRIN, and by
reset; no command ever increments the counter. -/
def Obligations.LatchesChangeOnlyAsListed : Prop :=
  ∀ s t : State, s.engine.Inv → step s = .next t →
    (∃ rest, Next s .reset rest) ∨ Due s .clrin ∨
    ((t.engine.K ≠ s.engine.K ∨ t.engine.KV ≠ s.engine.KV →
      ∃ (j : Fin 8) (off : Offset) (v : Word) (rest : List HostOp), off.toNat = 0x40 + 4 * j ∧
        Next s (.write off 4 v) rest ∧ s.engine.BUSY = false ∧ t.engine.K = s.engine.K.set j v) ∧
     (t.engine.N ≠ s.engine.N ∨ t.engine.NV ≠ s.engine.NV →
      ∃ (j : Fin 3) (off : Offset) (v : Word) (rest : List HostOp), off.toNat = 0x64 + 4 * j ∧
        Next s (.write off 4 v) rest ∧ s.engine.BUSY = false ∧ t.engine.N = s.engine.N.set j v) ∧
     (t.engine.CTR ≠ s.engine.CTR →
      ∃ (v : Word) (rest : List HostOp), Next s (.write 0x60 4 v) rest ∧ s.engine.BUSY = false ∧ t.engine.CTR = v))

/-- R20: only BLOCK, with the words S held, and reset write the snapshot. -/
def Obligations.SnapshotIsWrittenByBlockOnly : Prop :=
  ∀ s t : State, s.engine.Inv → step s = .next t → t.engine.O ≠ s.engine.O →
    (Due s .block ∧ t.engine.O = s.engine.S) ∨ ∃ rest, Next s .reset rest

/-- R93: an accepted command completes after finitely many steps, whatever safe accesses the host makes, unless a reset
abandons it; until then nothing of the engine but ERR and ERRCODE changes. That LAT counts steps down is the model's choice (log 2), and
that a refused access ends the host program is log 5. -/
def Obligations.AcceptedCommandsComplete : Prop :=
  ∀ (s : State) (i : Instr), s.engine.Inv → s.Safe → .reset ∉ s.inputs → s.engine.PEND = some i →
    ∃ u t : State, Host.Core.run core s.latLeft s = .next u ∧ Due u i ∧ SameButError s.engine u.engine ∧
      step u = .next t ∧ Host.Core.run core (s.latLeft + 1) s = .next t ∧
      t.engine.PEND = none ∧ t.engine.BUSY = false
end

