-- ==== Sys2Proof/Laws/Decode.lean ====
section
/-! SUPPORT. The fields of the word of a QR (30_encoding.md R48, R50). -/

namespace Sys2Proof

/-- Every field of the word of a QR, read back. -/
theorem fields_encode_qr (a b c d : Slot) :
    opField (encode (.qr a b c d)) = 2 ∧
    rsv0Field (encode (.qr a b c d)) = 0 ∧
    rsv1Field (encode (.qr a b c d)) = 0 ∧
    qaField (encode (.qr a b c d)) = a ∧
    qbField (encode (.qr a b c d)) = b ∧
    qcField (encode (.qr a b c d)) = c ∧
    qdField (encode (.qr a b c d)) = d := by
  simp only [opField, rsv0Field, rsv1Field, qaField, qbField, qcField, qdField, encode]
  refine ⟨?_, ?_, ?_, ?_, ?_, ?_, ?_⟩
  · rw [BitVec.extractLsb'_append_eq_of_add_le (by omega)]
    rfl
  · rw [BitVec.extractLsb'_append_eq_of_add_le (by omega)]
    rfl
  · iterate 5 rw [BitVec.extractLsb'_append_eq_of_le (by omega)]
    rfl
  · rw [BitVec.extractLsb'_append_eq_of_le (by omega), BitVec.extractLsb'_append_eq_of_add_le (by omega)]
    simp [slotBits]
  · iterate 2 rw [BitVec.extractLsb'_append_eq_of_le (by omega)]
    rw [BitVec.extractLsb'_append_eq_of_add_le (by omega)]
    simp [slotBits]
  · iterate 3 rw [BitVec.extractLsb'_append_eq_of_le (by omega)]
    rw [BitVec.extractLsb'_append_eq_of_add_le (by omega)]
    simp [slotBits]
  · iterate 4 rw [BitVec.extractLsb'_append_eq_of_le (by omega)]
    rw [BitVec.extractLsb'_append_eq_of_add_le (by omega)]
    simp [slotBits]

theorem opField_encode_qr (a b c d : Slot) : opField (encode (.qr a b c d)) = 2 :=
  (fields_encode_qr a b c d).1

theorem rsv0Field_encode_qr (a b c d : Slot) : rsv0Field (encode (.qr a b c d)) = 0 :=
  (fields_encode_qr a b c d).2.1

theorem rsv1Field_encode_qr (a b c d : Slot) : rsv1Field (encode (.qr a b c d)) = 0 :=
  (fields_encode_qr a b c d).2.2.1

theorem qaField_encode_qr (a b c d : Slot) : qaField (encode (.qr a b c d)) = a :=
  (fields_encode_qr a b c d).2.2.2.1

theorem qbField_encode_qr (a b c d : Slot) : qbField (encode (.qr a b c d)) = b :=
  (fields_encode_qr a b c d).2.2.2.2.1

theorem qcField_encode_qr (a b c d : Slot) : qcField (encode (.qr a b c d)) = c :=
  (fields_encode_qr a b c d).2.2.2.2.2.1

theorem qdField_encode_qr (a b c d : Slot) : qdField (encode (.qr a b c d)) = d :=
  (fields_encode_qr a b c d).2.2.2.2.2.2

end Sys2Proof
end

