-- ==== Sys2Proof/Laws/State.lean ====
section
/-! SUPPORT. One lemma per field per update of the engine and of the state, so that no later proof unfolds a record
update. -/

namespace Sys2Proof.Machine

/-! ## Engine updates -/

@[simp] theorem Engine.raiseError_S (c : ErrorCode) (e : Engine) : (e.raiseError c).S = e.S := by
  unfold Engine.raiseError; split <;> rfl
@[simp] theorem Engine.raiseError_K (c : ErrorCode) (e : Engine) : (e.raiseError c).K = e.K := by
  unfold Engine.raiseError; split <;> rfl
@[simp] theorem Engine.raiseError_KV (c : ErrorCode) (e : Engine) : (e.raiseError c).KV = e.KV := by
  unfold Engine.raiseError; split <;> rfl
@[simp] theorem Engine.raiseError_N (c : ErrorCode) (e : Engine) : (e.raiseError c).N = e.N := by
  unfold Engine.raiseError; split <;> rfl
@[simp] theorem Engine.raiseError_NV (c : ErrorCode) (e : Engine) : (e.raiseError c).NV = e.NV := by
  unfold Engine.raiseError; split <;> rfl
@[simp] theorem Engine.raiseError_CTR (c : ErrorCode) (e : Engine) : (e.raiseError c).CTR = e.CTR := by
  unfold Engine.raiseError; split <;> rfl
@[simp] theorem Engine.raiseError_O (c : ErrorCode) (e : Engine) : (e.raiseError c).O = e.O := by
  unfold Engine.raiseError; split <;> rfl
@[simp] theorem Engine.raiseError_BUSY (c : ErrorCode) (e : Engine) : (e.raiseError c).BUSY = e.BUSY := by
  unfold Engine.raiseError; split <;> rfl
@[simp] theorem Engine.raiseError_PEND (c : ErrorCode) (e : Engine) : (e.raiseError c).PEND = e.PEND := by
  unfold Engine.raiseError; split <;> rfl

/-- R75: after an error ERR is 1, whatever it was. -/
@[simp] theorem Engine.raiseError_ERR (c : ErrorCode) (e : Engine) : (e.raiseError c).ERR = true := by
  unfold Engine.raiseError; split <;> simp_all

theorem Engine.raiseError_ERRCODE (c : ErrorCode) (e : Engine) :
    (e.raiseError c).ERRCODE = if e.ERR then e.ERRCODE else errorCodeBits c := by
  unfold Engine.raiseError; split <;> rfl

@[simp] theorem Engine.clearError_S (e : Engine) : (e.clearError).S = e.S := rfl
@[simp] theorem Engine.clearError_K (e : Engine) : (e.clearError).K = e.K := rfl
@[simp] theorem Engine.clearError_KV (e : Engine) : (e.clearError).KV = e.KV := rfl
@[simp] theorem Engine.clearError_N (e : Engine) : (e.clearError).N = e.N := rfl
@[simp] theorem Engine.clearError_NV (e : Engine) : (e.clearError).NV = e.NV := rfl
@[simp] theorem Engine.clearError_CTR (e : Engine) : (e.clearError).CTR = e.CTR := rfl
@[simp] theorem Engine.clearError_O (e : Engine) : (e.clearError).O = e.O := rfl
@[simp] theorem Engine.clearError_BUSY (e : Engine) : (e.clearError).BUSY = e.BUSY := rfl
@[simp] theorem Engine.clearError_ERR (e : Engine) : (e.clearError).ERR = false := rfl
@[simp] theorem Engine.clearError_ERRCODE (e : Engine) : (e.clearError).ERRCODE = 0 := rfl
@[simp] theorem Engine.clearError_PEND (e : Engine) : (e.clearError).PEND = e.PEND := rfl

@[simp] theorem Engine.accept_S (i : Instr) (e : Engine) : (e.accept i).S = e.S := rfl
@[simp] theorem Engine.accept_K (i : Instr) (e : Engine) : (e.accept i).K = e.K := rfl
@[simp] theorem Engine.accept_KV (i : Instr) (e : Engine) : (e.accept i).KV = e.KV := rfl
@[simp] theorem Engine.accept_N (i : Instr) (e : Engine) : (e.accept i).N = e.N := rfl
@[simp] theorem Engine.accept_NV (i : Instr) (e : Engine) : (e.accept i).NV = e.NV := rfl
@[simp] theorem Engine.accept_CTR (i : Instr) (e : Engine) : (e.accept i).CTR = e.CTR := rfl
@[simp] theorem Engine.accept_O (i : Instr) (e : Engine) : (e.accept i).O = e.O := rfl
@[simp] theorem Engine.accept_BUSY (i : Instr) (e : Engine) : (e.accept i).BUSY = true := rfl
@[simp] theorem Engine.accept_ERR (i : Instr) (e : Engine) : (e.accept i).ERR = e.ERR := rfl
@[simp] theorem Engine.accept_ERRCODE (i : Instr) (e : Engine) : (e.accept i).ERRCODE = e.ERRCODE := rfl
@[simp] theorem Engine.accept_PEND (i : Instr) (e : Engine) : (e.accept i).PEND = some i := rfl

@[simp] theorem Engine.retire_S (e : Engine) : (e.retire).S = e.S := rfl
@[simp] theorem Engine.retire_K (e : Engine) : (e.retire).K = e.K := rfl
@[simp] theorem Engine.retire_KV (e : Engine) : (e.retire).KV = e.KV := rfl
@[simp] theorem Engine.retire_N (e : Engine) : (e.retire).N = e.N := rfl
@[simp] theorem Engine.retire_NV (e : Engine) : (e.retire).NV = e.NV := rfl
@[simp] theorem Engine.retire_CTR (e : Engine) : (e.retire).CTR = e.CTR := rfl
@[simp] theorem Engine.retire_O (e : Engine) : (e.retire).O = e.O := rfl
@[simp] theorem Engine.retire_BUSY (e : Engine) : (e.retire).BUSY = false := rfl
@[simp] theorem Engine.retire_ERR (e : Engine) : (e.retire).ERR = e.ERR := rfl
@[simp] theorem Engine.retire_ERRCODE (e : Engine) : (e.retire).ERRCODE = e.ERRCODE := rfl
@[simp] theorem Engine.retire_PEND (e : Engine) : (e.retire).PEND = none := rfl

@[simp] theorem Engine.setS_S (S : Block) (e : Engine) : (e.setS S).S = S := rfl
@[simp] theorem Engine.setS_K (S : Block) (e : Engine) : (e.setS S).K = e.K := rfl
@[simp] theorem Engine.setS_KV (S : Block) (e : Engine) : (e.setS S).KV = e.KV := rfl
@[simp] theorem Engine.setS_N (S : Block) (e : Engine) : (e.setS S).N = e.N := rfl
@[simp] theorem Engine.setS_NV (S : Block) (e : Engine) : (e.setS S).NV = e.NV := rfl
@[simp] theorem Engine.setS_CTR (S : Block) (e : Engine) : (e.setS S).CTR = e.CTR := rfl
@[simp] theorem Engine.setS_O (S : Block) (e : Engine) : (e.setS S).O = e.O := rfl
@[simp] theorem Engine.setS_BUSY (S : Block) (e : Engine) : (e.setS S).BUSY = e.BUSY := rfl
@[simp] theorem Engine.setS_ERR (S : Block) (e : Engine) : (e.setS S).ERR = e.ERR := rfl
@[simp] theorem Engine.setS_ERRCODE (S : Block) (e : Engine) : (e.setS S).ERRCODE = e.ERRCODE := rfl
@[simp] theorem Engine.setS_PEND (S : Block) (e : Engine) : (e.setS S).PEND = e.PEND := rfl

@[simp] theorem Engine.setO_S (O : Block) (e : Engine) : (e.setO O).S = e.S := rfl
@[simp] theorem Engine.setO_K (O : Block) (e : Engine) : (e.setO O).K = e.K := rfl
@[simp] theorem Engine.setO_KV (O : Block) (e : Engine) : (e.setO O).KV = e.KV := rfl
@[simp] theorem Engine.setO_N (O : Block) (e : Engine) : (e.setO O).N = e.N := rfl
@[simp] theorem Engine.setO_NV (O : Block) (e : Engine) : (e.setO O).NV = e.NV := rfl
@[simp] theorem Engine.setO_CTR (O : Block) (e : Engine) : (e.setO O).CTR = e.CTR := rfl
@[simp] theorem Engine.setO_O (O : Block) (e : Engine) : (e.setO O).O = O := rfl
@[simp] theorem Engine.setO_BUSY (O : Block) (e : Engine) : (e.setO O).BUSY = e.BUSY := rfl
@[simp] theorem Engine.setO_ERR (O : Block) (e : Engine) : (e.setO O).ERR = e.ERR := rfl
@[simp] theorem Engine.setO_ERRCODE (O : Block) (e : Engine) : (e.setO O).ERRCODE = e.ERRCODE := rfl
@[simp] theorem Engine.setO_PEND (O : Block) (e : Engine) : (e.setO O).PEND = e.PEND := rfl

@[simp] theorem Engine.writeS_S (i : Slot) (v : Word) (e : Engine) : (e.writeS i v).S = e.S.set i v := rfl
@[simp] theorem Engine.writeS_K (i : Slot) (v : Word) (e : Engine) : (e.writeS i v).K = e.K := rfl
@[simp] theorem Engine.writeS_KV (i : Slot) (v : Word) (e : Engine) : (e.writeS i v).KV = e.KV := rfl
@[simp] theorem Engine.writeS_N (i : Slot) (v : Word) (e : Engine) : (e.writeS i v).N = e.N := rfl
@[simp] theorem Engine.writeS_NV (i : Slot) (v : Word) (e : Engine) : (e.writeS i v).NV = e.NV := rfl
@[simp] theorem Engine.writeS_CTR (i : Slot) (v : Word) (e : Engine) : (e.writeS i v).CTR = e.CTR := rfl
@[simp] theorem Engine.writeS_O (i : Slot) (v : Word) (e : Engine) : (e.writeS i v).O = e.O := rfl
@[simp] theorem Engine.writeS_BUSY (i : Slot) (v : Word) (e : Engine) : (e.writeS i v).BUSY = e.BUSY := rfl
@[simp] theorem Engine.writeS_ERR (i : Slot) (v : Word) (e : Engine) : (e.writeS i v).ERR = e.ERR := rfl
@[simp] theorem Engine.writeS_ERRCODE (i : Slot) (v : Word) (e : Engine) :
    (e.writeS i v).ERRCODE = e.ERRCODE := rfl
@[simp] theorem Engine.writeS_PEND (i : Slot) (v : Word) (e : Engine) : (e.writeS i v).PEND = e.PEND := rfl

@[simp] theorem Engine.latchKey_S (j : Fin 8) (v : Word) (e : Engine) : (e.latchKey j v).S = e.S := rfl
@[simp] theorem Engine.latchKey_K (j : Fin 8) (v : Word) (e : Engine) :
    (e.latchKey j v).K = e.K.set j v := rfl
@[simp] theorem Engine.latchKey_KV (j : Fin 8) (v : Word) (e : Engine) :
    (e.latchKey j v).KV = e.KV ||| (1#8 <<< j.val) := rfl
@[simp] theorem Engine.latchKey_N (j : Fin 8) (v : Word) (e : Engine) : (e.latchKey j v).N = e.N := rfl
@[simp] theorem Engine.latchKey_NV (j : Fin 8) (v : Word) (e : Engine) : (e.latchKey j v).NV = e.NV := rfl
@[simp] theorem Engine.latchKey_CTR (j : Fin 8) (v : Word) (e : Engine) : (e.latchKey j v).CTR = e.CTR := rfl
@[simp] theorem Engine.latchKey_O (j : Fin 8) (v : Word) (e : Engine) : (e.latchKey j v).O = e.O := rfl
@[simp] theorem Engine.latchKey_BUSY (j : Fin 8) (v : Word) (e : Engine) :
    (e.latchKey j v).BUSY = e.BUSY := rfl
@[simp] theorem Engine.latchKey_ERR (j : Fin 8) (v : Word) (e : Engine) : (e.latchKey j v).ERR = e.ERR := rfl
@[simp] theorem Engine.latchKey_ERRCODE (j : Fin 8) (v : Word) (e : Engine) :
    (e.latchKey j v).ERRCODE = e.ERRCODE := rfl
@[simp] theorem Engine.latchKey_PEND (j : Fin 8) (v : Word) (e : Engine) :
    (e.latchKey j v).PEND = e.PEND := rfl

@[simp] theorem Engine.latchNonce_S (j : Fin 3) (v : Word) (e : Engine) : (e.latchNonce j v).S = e.S := rfl
@[simp] theorem Engine.latchNonce_K (j : Fin 3) (v : Word) (e : Engine) : (e.latchNonce j v).K = e.K := rfl
@[simp] theorem Engine.latchNonce_KV (j : Fin 3) (v : Word) (e : Engine) : (e.latchNonce j v).KV = e.KV := rfl
@[simp] theorem Engine.latchNonce_N (j : Fin 3) (v : Word) (e : Engine) :
    (e.latchNonce j v).N = e.N.set j v := rfl
@[simp] theorem Engine.latchNonce_NV (j : Fin 3) (v : Word) (e : Engine) :
    (e.latchNonce j v).NV = e.NV ||| (1#3 <<< j.val) := rfl
@[simp] theorem Engine.latchNonce_CTR (j : Fin 3) (v : Word) (e : Engine) :
    (e.latchNonce j v).CTR = e.CTR := rfl
@[simp] theorem Engine.latchNonce_O (j : Fin 3) (v : Word) (e : Engine) : (e.latchNonce j v).O = e.O := rfl
@[simp] theorem Engine.latchNonce_BUSY (j : Fin 3) (v : Word) (e : Engine) :
    (e.latchNonce j v).BUSY = e.BUSY := rfl
@[simp] theorem Engine.latchNonce_ERR (j : Fin 3) (v : Word) (e : Engine) :
    (e.latchNonce j v).ERR = e.ERR := rfl
@[simp] theorem Engine.latchNonce_ERRCODE (j : Fin 3) (v : Word) (e : Engine) :
    (e.latchNonce j v).ERRCODE = e.ERRCODE := rfl
@[simp] theorem Engine.latchNonce_PEND (j : Fin 3) (v : Word) (e : Engine) :
    (e.latchNonce j v).PEND = e.PEND := rfl

@[simp] theorem Engine.writeCTR_S (v : Word) (e : Engine) : (e.writeCTR v).S = e.S := rfl
@[simp] theorem Engine.writeCTR_K (v : Word) (e : Engine) : (e.writeCTR v).K = e.K := rfl
@[simp] theorem Engine.writeCTR_KV (v : Word) (e : Engine) : (e.writeCTR v).KV = e.KV := rfl
@[simp] theorem Engine.writeCTR_N (v : Word) (e : Engine) : (e.writeCTR v).N = e.N := rfl
@[simp] theorem Engine.writeCTR_NV (v : Word) (e : Engine) : (e.writeCTR v).NV = e.NV := rfl
@[simp] theorem Engine.writeCTR_CTR (v : Word) (e : Engine) : (e.writeCTR v).CTR = v := rfl
@[simp] theorem Engine.writeCTR_O (v : Word) (e : Engine) : (e.writeCTR v).O = e.O := rfl
@[simp] theorem Engine.writeCTR_BUSY (v : Word) (e : Engine) : (e.writeCTR v).BUSY = e.BUSY := rfl
@[simp] theorem Engine.writeCTR_ERR (v : Word) (e : Engine) : (e.writeCTR v).ERR = e.ERR := rfl
@[simp] theorem Engine.writeCTR_ERRCODE (v : Word) (e : Engine) : (e.writeCTR v).ERRCODE = e.ERRCODE := rfl
@[simp] theorem Engine.writeCTR_PEND (v : Word) (e : Engine) : (e.writeCTR v).PEND = e.PEND := rfl

@[simp] theorem Engine.writeStatus_S (v : Word) (e : Engine) : (e.writeStatus v).S = e.S := by
  unfold Engine.writeStatus; split <;> rfl
@[simp] theorem Engine.writeStatus_K (v : Word) (e : Engine) : (e.writeStatus v).K = e.K := by
  unfold Engine.writeStatus; split <;> rfl
@[simp] theorem Engine.writeStatus_KV (v : Word) (e : Engine) : (e.writeStatus v).KV = e.KV := by
  unfold Engine.writeStatus; split <;> rfl
@[simp] theorem Engine.writeStatus_N (v : Word) (e : Engine) : (e.writeStatus v).N = e.N := by
  unfold Engine.writeStatus; split <;> rfl
@[simp] theorem Engine.writeStatus_NV (v : Word) (e : Engine) : (e.writeStatus v).NV = e.NV := by
  unfold Engine.writeStatus; split <;> rfl
@[simp] theorem Engine.writeStatus_CTR (v : Word) (e : Engine) : (e.writeStatus v).CTR = e.CTR := by
  unfold Engine.writeStatus; split <;> rfl
@[simp] theorem Engine.writeStatus_O (v : Word) (e : Engine) : (e.writeStatus v).O = e.O := by
  unfold Engine.writeStatus; split <;> rfl
@[simp] theorem Engine.writeStatus_BUSY (v : Word) (e : Engine) : (e.writeStatus v).BUSY = e.BUSY := by
  unfold Engine.writeStatus; split <;> rfl
@[simp] theorem Engine.writeStatus_PEND (v : Word) (e : Engine) : (e.writeStatus v).PEND = e.PEND := by
  unfold Engine.writeStatus; split <;> rfl

theorem Engine.writeStatus_ERR (v : Word) (e : Engine) :
    (e.writeStatus v).ERR = (e.ERR && !clearsError v) := by
  unfold Engine.writeStatus; split <;> simp_all

theorem Engine.writeStatus_ERRCODE (v : Word) (e : Engine) :
    (e.writeStatus v).ERRCODE = if clearsError v then 0 else e.ERRCODE := by
  unfold Engine.writeStatus; split <;> simp_all

/-- R22, R36: no register write by itself touches BUSY or PEND. -/
@[simp] theorem Engine.writeReg_BUSY (r : Reg) (v : Word) (e : Engine) : (e.writeReg r v).BUSY = e.BUSY := by
  cases r <;> simp [Engine.writeReg]

@[simp] theorem Engine.writeReg_PEND (r : Reg) (v : Word) (e : Engine) : (e.writeReg r v).PEND = e.PEND := by
  cases r <;> simp [Engine.writeReg]

@[simp] theorem Engine.writeReg_O (r : Reg) (v : Word) (e : Engine) : (e.writeReg r v).O = e.O := by
  cases r <;> simp [Engine.writeReg]

/-! ## Effects of the commands -/

@[simp] theorem initEffect_K (e : Engine) : (initEffect e).K = e.K := by
  simp [initEffect]
@[simp] theorem initEffect_KV (e : Engine) : (initEffect e).KV = e.KV := by
  simp [initEffect]
@[simp] theorem initEffect_N (e : Engine) : (initEffect e).N = e.N := by
  simp [initEffect]
@[simp] theorem initEffect_NV (e : Engine) : (initEffect e).NV = e.NV := by
  simp [initEffect]
@[simp] theorem initEffect_CTR (e : Engine) : (initEffect e).CTR = e.CTR := by
  simp [initEffect]
@[simp] theorem initEffect_O (e : Engine) : (initEffect e).O = e.O := by
  simp [initEffect]
@[simp] theorem initEffect_BUSY (e : Engine) : (initEffect e).BUSY = e.BUSY := by
  simp [initEffect]
@[simp] theorem initEffect_ERR (e : Engine) : (initEffect e).ERR = e.ERR := by
  simp [initEffect]
@[simp] theorem initEffect_ERRCODE (e : Engine) : (initEffect e).ERRCODE = e.ERRCODE := by
  simp [initEffect]
@[simp] theorem initEffect_PEND (e : Engine) : (initEffect e).PEND = e.PEND := by
  simp [initEffect]

@[simp] theorem clrinEffect_S (e : Engine) : (clrinEffect e).S = e.S := rfl
@[simp] theorem clrinEffect_O (e : Engine) : (clrinEffect e).O = e.O := rfl
@[simp] theorem clrinEffect_BUSY (e : Engine) : (clrinEffect e).BUSY = e.BUSY := rfl
@[simp] theorem clrinEffect_ERR (e : Engine) : (clrinEffect e).ERR = e.ERR := rfl
@[simp] theorem clrinEffect_ERRCODE (e : Engine) : (clrinEffect e).ERRCODE = e.ERRCODE := rfl
@[simp] theorem clrinEffect_PEND (e : Engine) : (clrinEffect e).PEND = e.PEND := rfl

@[simp] theorem qrEffect_K (a b c d : Slot) (e : Engine) : (qrEffect a b c d e).K = e.K := by
  simp [qrEffect]
@[simp] theorem qrEffect_KV (a b c d : Slot) (e : Engine) : (qrEffect a b c d e).KV = e.KV := by
  simp [qrEffect]
@[simp] theorem qrEffect_N (a b c d : Slot) (e : Engine) : (qrEffect a b c d e).N = e.N := by
  simp [qrEffect]
@[simp] theorem qrEffect_NV (a b c d : Slot) (e : Engine) : (qrEffect a b c d e).NV = e.NV := by
  simp [qrEffect]
@[simp] theorem qrEffect_CTR (a b c d : Slot) (e : Engine) : (qrEffect a b c d e).CTR = e.CTR := by
  simp [qrEffect]
@[simp] theorem qrEffect_O (a b c d : Slot) (e : Engine) : (qrEffect a b c d e).O = e.O := by
  simp [qrEffect]
@[simp] theorem qrEffect_BUSY (a b c d : Slot) (e : Engine) : (qrEffect a b c d e).BUSY = e.BUSY := by
  simp [qrEffect]
@[simp] theorem qrEffect_ERR (a b c d : Slot) (e : Engine) : (qrEffect a b c d e).ERR = e.ERR := by
  simp [qrEffect]
@[simp] theorem qrEffect_ERRCODE (a b c d : Slot) (e : Engine) : (qrEffect a b c d e).ERRCODE = e.ERRCODE := by
  simp [qrEffect]
@[simp] theorem qrEffect_PEND (a b c d : Slot) (e : Engine) : (qrEffect a b c d e).PEND = e.PEND := by
  simp [qrEffect]

@[simp] theorem droundEffect_K (e : Engine) : (droundEffect e).K = e.K := by
  simp [droundEffect]
@[simp] theorem droundEffect_KV (e : Engine) : (droundEffect e).KV = e.KV := by
  simp [droundEffect]
@[simp] theorem droundEffect_N (e : Engine) : (droundEffect e).N = e.N := by
  simp [droundEffect]
@[simp] theorem droundEffect_NV (e : Engine) : (droundEffect e).NV = e.NV := by
  simp [droundEffect]
@[simp] theorem droundEffect_CTR (e : Engine) : (droundEffect e).CTR = e.CTR := by
  simp [droundEffect]
@[simp] theorem droundEffect_O (e : Engine) : (droundEffect e).O = e.O := by
  simp [droundEffect]
@[simp] theorem droundEffect_BUSY (e : Engine) : (droundEffect e).BUSY = e.BUSY := by
  simp [droundEffect]
@[simp] theorem droundEffect_ERR (e : Engine) : (droundEffect e).ERR = e.ERR := by
  simp [droundEffect]
@[simp] theorem droundEffect_ERRCODE (e : Engine) : (droundEffect e).ERRCODE = e.ERRCODE := by
  simp [droundEffect]
@[simp] theorem droundEffect_PEND (e : Engine) : (droundEffect e).PEND = e.PEND := by
  simp [droundEffect]

@[simp] theorem blockEffect_K (e : Engine) : (blockEffect e).K = e.K := by
  simp [blockEffect]
@[simp] theorem blockEffect_KV (e : Engine) : (blockEffect e).KV = e.KV := by
  simp [blockEffect]
@[simp] theorem blockEffect_N (e : Engine) : (blockEffect e).N = e.N := by
  simp [blockEffect]
@[simp] theorem blockEffect_NV (e : Engine) : (blockEffect e).NV = e.NV := by
  simp [blockEffect]
@[simp] theorem blockEffect_CTR (e : Engine) : (blockEffect e).CTR = e.CTR := by
  simp [blockEffect]
@[simp] theorem blockEffect_BUSY (e : Engine) : (blockEffect e).BUSY = e.BUSY := by
  simp [blockEffect]
@[simp] theorem blockEffect_ERR (e : Engine) : (blockEffect e).ERR = e.ERR := by
  simp [blockEffect]
@[simp] theorem blockEffect_ERRCODE (e : Engine) : (blockEffect e).ERRCODE = e.ERRCODE := by
  simp [blockEffect]
@[simp] theorem blockEffect_PEND (e : Engine) : (blockEffect e).PEND = e.PEND := by
  simp [blockEffect]

/-! ## State updates -/

@[simp] theorem State.raiseError_engine (c : ErrorCode) (s : State) :
    (s.raiseError c).engine = s.engine.raiseError c := rfl
@[simp] theorem State.raiseError_inputs (c : ErrorCode) (s : State) :
    (s.raiseError c).inputs = s.inputs := rfl
@[simp] theorem State.raiseError_returned (c : ErrorCode) (s : State) :
    (s.raiseError c).returned = s.returned := rfl
@[simp] theorem State.raiseError_draws (c : ErrorCode) (s : State) : (s.raiseError c).draws = s.draws := rfl
@[simp] theorem State.raiseError_latLeft (c : ErrorCode) (s : State) :
    (s.raiseError c).latLeft = s.latLeft := rfl

@[simp] theorem State.accept_engine (i : Instr) (s : State) : (s.accept i).engine = s.engine.accept i := rfl
@[simp] theorem State.accept_inputs (i : Instr) (s : State) : (s.accept i).inputs = s.inputs := rfl
@[simp] theorem State.accept_returned (i : Instr) (s : State) : (s.accept i).returned = s.returned := rfl
@[simp] theorem State.accept_draws (i : Instr) (s : State) : (s.accept i).draws = s.draws + 1 := rfl
@[simp] theorem State.accept_latLeft (i : Instr) (s : State) :
    (s.accept i).latLeft = Config.lat s.draws i := rfl

@[simp] theorem State.complete_engine (f : Engine → Engine) (s : State) :
    (s.complete f).engine = (f s.engine).retire := rfl
@[simp] theorem State.complete_inputs (f : Engine → Engine) (s : State) :
    (s.complete f).inputs = s.inputs := rfl
@[simp] theorem State.complete_returned (f : Engine → Engine) (s : State) :
    (s.complete f).returned = s.returned := rfl
@[simp] theorem State.complete_draws (f : Engine → Engine) (s : State) : (s.complete f).draws = s.draws := rfl
@[simp] theorem State.complete_latLeft (f : Engine → Engine) (s : State) :
    (s.complete f).latLeft = s.latLeft := rfl

@[simp] theorem State.tick_engine (s : State) : (s.tick).engine = s.engine := rfl
@[simp] theorem State.tick_inputs (s : State) : (s.tick).inputs = s.inputs := rfl
@[simp] theorem State.tick_returned (s : State) : (s.tick).returned = s.returned := rfl
@[simp] theorem State.tick_draws (s : State) : (s.tick).draws = s.draws := rfl
@[simp] theorem State.tick_latLeft (s : State) : (s.tick).latLeft = s.latLeft - 1 := rfl

@[simp] theorem State.popped_engine (rest : List HostOp) (s : State) :
    (s.popped rest).engine = s.engine := rfl
@[simp] theorem State.popped_inputs (rest : List HostOp) (s : State) : (s.popped rest).inputs = rest := rfl
@[simp] theorem State.popped_returned (rest : List HostOp) (s : State) :
    (s.popped rest).returned = s.returned := rfl
@[simp] theorem State.popped_draws (rest : List HostOp) (s : State) : (s.popped rest).draws = s.draws := rfl
@[simp] theorem State.popped_latLeft (rest : List HostOp) (s : State) :
    (s.popped rest).latLeft = s.latLeft - 1 := rfl

@[simp] theorem regRead_engine (off : Offset) (s : State) : (regRead off s).engine = s.engine := rfl
@[simp] theorem regRead_inputs (off : Offset) (s : State) : (regRead off s).inputs = s.inputs := rfl
@[simp] theorem regRead_returned (off : Offset) (s : State) :
    (regRead off s).returned = regReadValue off s :: s.returned := rfl
@[simp] theorem regRead_latLeft (off : Offset) (s : State) : (regRead off s).latLeft = s.latLeft := rfl

/-- R33, R56: polling changes nothing of the engine. -/
@[simp] theorem pollStatus_engine (s : State) : (pollStatus s).engine = s.engine := by
  unfold pollStatus; split <;> rfl
@[simp] theorem pollStatus_latLeft (s : State) : (pollStatus s).latLeft = s.latLeft := by
  unfold pollStatus; split <;> rfl

@[simp] theorem applyReset_engine (s : State) : (applyReset s).engine = Engine.reset := rfl
@[simp] theorem applyReset_inputs (s : State) : (applyReset s).inputs = s.inputs := rfl
@[simp] theorem applyReset_returned (s : State) : (applyReset s).returned = s.returned := rfl
@[simp] theorem applyReset_draws (s : State) : (applyReset s).draws = s.draws := rfl
@[simp] theorem applyReset_latLeft (s : State) : (applyReset s).latLeft = 0 := rfl

end Sys2Proof.Machine
end

