-- ==== Sys2Proof/Laws/Ops.lean ====
section
/-! SUPPORT. What each shared operation can do, said once: recording an error, and the step of a command
(30_encoding.md R53, 70_reset_and_hazards.md R92). -/

namespace Sys2Proof.Machine

/-! ## ERR and ERRCODE apart, nothing changes -/

theorem SameButError.refl (e : Engine) : SameButError e e := rfl

theorem SameButError.trans {e e' e'' : Engine} (h : SameButError e e') (h' : SameButError e' e'') :
    SameButError e e'' := by
  unfold SameButError at *; rw [h', h]

theorem SameButError.raiseError (c : ErrorCode) (e : Engine) : SameButError e (e.raiseError c) := by
  unfold SameButError Engine.raiseError; split <;> rfl

theorem SameButError.writeStatus (v : Word) (e : Engine) : SameButError e (e.writeStatus v) := by
  unfold SameButError Engine.writeStatus; split <;> rfl

/-! ## The conditions the checks test -/

theorem keyComplete_iff (e : Engine) : keyComplete e = true ↔ ∀ j : Fin 8, e.KV.getLsbD j = true := by
  unfold keyComplete
  generalize e.KV = v
  revert v
  decide

theorem nonceComplete_iff (e : Engine) : nonceComplete e = true ↔ ∀ j : Fin 3, e.NV.getLsbD j = true := by
  unfold nonceComplete
  generalize e.NV = v
  revert v
  decide

theorem keyComplete_eq_false_iff (e : Engine) : keyComplete e = false ↔ ∃ j : Fin 8, e.KV.getLsbD j = false := by
  rw [← Bool.not_eq_true, keyComplete_iff]
  simp

theorem nonceComplete_eq_false_iff (e : Engine) :
    nonceComplete e = false ↔ ∃ j : Fin 3, e.NV.getLsbD j = false := by
  rw [← Bool.not_eq_true, nonceComplete_iff]
  simp

theorem slotsDistinct_iff_nodup (a b c d : Slot) : slotsDistinct a b c d = true ↔ [a, b, c, d].Nodup := by
  simp [slotsDistinct]
  tauto

/-! ## The step of a command -/

/-- A command completes, is dropped, fails a check or is accepted. -/
theorem runCommand_cases {i : Instr} {check : Engine → Option ErrorCode} {effect : Engine → Engine} {s : State}
    {o : Host.Outcome State Fault Refusal} (h : runCommand i check effect s = o) :
    (s.engine.PEND = some i ∧ o = .next (s.complete effect)) ∨
    (s.engine.PEND ≠ some i ∧ s.engine.BUSY = true ∧ o = .next (s.raiseError .busyWrite)) ∨
    (s.engine.PEND ≠ some i ∧ s.engine.BUSY = false ∧ ∃ c, check s.engine = some c ∧ o = .next (s.raiseError c)) ∨
    (s.engine.PEND ≠ some i ∧ s.engine.BUSY = false ∧ check s.engine = none ∧ o = .next (s.accept i)) := by
  subst h
  unfold runCommand
  split
  · exact .inl ⟨‹_›, rfl⟩
  · split
    · exact .inr (.inl ⟨‹_›, ‹_›, rfl⟩)
    · cases hc : check s.engine <;> simp_all

/-- R53: on an idle engine the first failing check is recorded. -/
theorem runCommand_raises {i : Instr} {check : Engine → Option ErrorCode} {effect : Engine → Engine} {s : State}
    {c : ErrorCode} (h : s.engine.idle) (hc : check s.engine = some c) :
    runCommand i check effect s = .next (s.raiseError c) := by
  simp [runCommand, h.1, h.2, hc]

/-- R53: on an idle engine a command that passes its checks is accepted. -/
theorem runCommand_accepts {i : Instr} {check : Engine → Option ErrorCode} {effect : Engine → Engine} {s : State}
    (h : s.engine.idle) (hc : check s.engine = none) : runCommand i check effect s = .next (s.accept i) := by
  simp [runCommand, h.1, h.2, hc]

/-- The check of a command at issue (R52). -/
def commandCheck : Instr → Engine → Option ErrorCode
  | .nop => noCheck
  | .init => initCheck
  | .qr a b c d => qrCheck a b c d
  | .dround => noCheck
  | .block => noCheck
  | .clrin => noCheck

/-- The effect of a command at completion (R92). -/
def commandEffect : Instr → Engine → Engine
  | .nop => id
  | .init => initEffect
  | .qr a b c d => qrEffect a b c d
  | .dround => droundEffect
  | .block => blockEffect
  | .clrin => clrinEffect

theorem exec_eq_runCommand {i : Instr} (hi : i ≠ .nop) (s : State) :
    exec i s = runCommand i (commandCheck i) (commandEffect i) s := by
  cases i <;> first | exact absurd rfl hi | rfl

/-- R92: a pending command completes. -/
theorem exec_pending {i : Instr} {s : State} (h : s.engine.PEND = some i) :
    exec i s = .next (s.complete (commandEffect i)) := by
  cases i <;> simp [exec, execNop, execInit, execQr, execDround, execBlock, execClrin, runCommand, h, commandEffect]

/-- The five things `exec` can do. -/
theorem exec_cases {i : Instr} {s : State} {o : Host.Outcome State Fault Refusal} (h : exec i s = o) :
    (s.engine.PEND = some i ∧ o = .next (s.complete (commandEffect i))) ∨
    (s.engine.PEND ≠ some i ∧ s.engine.BUSY = true ∧ o = .next (s.raiseError .busyWrite)) ∨
    (s.engine.PEND ≠ some i ∧ s.engine.BUSY = false ∧ i = .nop ∧ o = .next s) ∨
    (s.engine.PEND ≠ some i ∧ s.engine.BUSY = false ∧ i ≠ .nop ∧
      ∃ c, commandCheck i s.engine = some c ∧ o = .next (s.raiseError c)) ∨
    (s.engine.PEND ≠ some i ∧ s.engine.BUSY = false ∧ i ≠ .nop ∧ commandCheck i s.engine = none ∧
      o = .next (s.accept i)) := by
  by_cases hi : i = .nop
  · subst hi h
    simp only [exec, execNop, commandEffect]
    split
    · exact .inl ⟨‹_›, rfl⟩
    · split <;> simp_all
  · rw [exec_eq_runCommand hi] at h
    obtain h | h | ⟨h₁, h₂, h₃⟩ | ⟨h₁, h₂, h₃, h₄⟩ := runCommand_cases h
    · exact .inl h
    · exact .inr (.inl h)
    · exact .inr (.inr (.inr (.inl ⟨h₁, h₂, hi, h₃⟩)))
    · exact .inr (.inr (.inr (.inr ⟨h₁, h₂, hi, h₃, h₄⟩)))

/-- R53: a word is illegal, or runs the command it decodes to. -/
theorem issue_cases {v : Word} {s : State} {o : Host.Outcome State Fault Refusal} (h : issue v s = o) :
    ((∃ r, decode v = .error r) ∧ o = .next (s.raiseError .illegalCmd)) ∨ (∃ i, decode v = .ok i ∧ exec i s = o) := by
  subst h; unfold issue
  cases decode v <;> simp

end Sys2Proof.Machine
end

