-- ==== Sys2Proof/Laws/PerInstr.lean ====
section
/-! SUPPORT. Statements made for every command, one lemma per constructor. -/

namespace Sys2Proof.Laws.EncodeLegal

open Sys2Proof Sys2Proof.Machine

/-- R51: the word of a command is a legal word. -/
def Statement (i : Instr) : Prop := LegalWord (encode i)

theorem nop : Statement .nop := by unfold Statement; decide
theorem init : Statement .init := by unfold Statement; decide
theorem qr (a b c d : Slot) : Statement (.qr a b c d) :=
  ⟨by rw [← opField, opField_encode_qr]; decide, rsv0Field_encode_qr a b c d, rsv1Field_encode_qr a b c d,
    .inl (opField_encode_qr a b c d)⟩
theorem dround : Statement .dround := by unfold Statement; decide
theorem block : Statement .block := by unfold Statement; decide
theorem clrin : Statement .clrin := by unfold Statement; decide

end Sys2Proof.Laws.EncodeLegal
end

