-- ==== Sys2Proof/Laws/Permutation.lean ====
section
/-! SUPPORT. What the word operations and one quarter-round do to the words of a block (41_permutation.md R61 to R63):
the word at every slot afterwards. -/

namespace Sys2Proof.Machine

@[simp] theorem rotl_eq_rotateLeft (x : Word) (n : Nat) (h : n < 32) : rotl x n = x.rotateLeft n := by
  simp [rotl, BitVec.rotateLeft, BitVec.rotateLeftAux, Nat.mod_eq_of_lt h]

@[simp] theorem addSlot_get (x y i : Slot) (S : Block) :
    (addSlot x y S)[i.val] = if i = x then S[x.val] + S[y.val] else S[i.val] := by
  simp [addSlot, Vector.getElem_set, Fin.ext_iff, eq_comm]

@[simp] theorem xorSlot_get (x y i : Slot) (S : Block) :
    (xorSlot x y S)[i.val] = if i = x then S[x.val] ^^^ S[y.val] else S[i.val] := by
  simp [xorSlot, Vector.getElem_set, Fin.ext_iff, eq_comm]

@[simp] theorem rotSlot_get (x i : Slot) (n : Nat) (S : Block) :
    (rotSlot x n S)[i.val] = if i = x then rotl S[x.val] n else S[i.val] := by
  simp [rotSlot, Vector.getElem_set, Fin.ext_iff, eq_comm]

theorem quarterStep_get (x y z i : Slot) (n : Nat) (S : Block) (hxz : x ≠ z) :
    (quarterStep x y z n S)[i.val] =
      if i = z then rotl (S[z.val] ^^^ (S[x.val] + S[y.val])) n
      else if i = x then S[x.val] + S[y.val] else S[i.val] := by
  unfold quarterStep
  simp only [rotSlot_get, xorSlot_get, addSlot_get, if_true, if_neg hxz.symm]
  split <;> simp_all

theorem quarterRound_frame (S : Block) (a b c d i : Slot) (hi : i ∉ [a, b, c, d]) :
    (quarterRound S a b c d)[i.val] = S[i.val] := by
  simp only [List.mem_cons, List.not_mem_nil, or_false, not_or] at hi
  simp [quarterRound, quarterStep, hi]

theorem quarterRound_spec (S : Block) (a b c d : Slot) (h : [a, b, c, d].Nodup) :
    QuarterRounded S (quarterRound S a b c d) a b c d := by
  simp only [List.nodup_cons, List.mem_cons, List.not_mem_nil, not_or, or_false, List.nodup_nil, not_false_iff, and_true] at h
  obtain ⟨⟨hab, hac, had⟩, ⟨hbc, hbd⟩, hcd⟩ := h
  have hba := Ne.symm hab; have hca := Ne.symm hac; have hda := Ne.symm had
  have hcb := Ne.symm hbc; have hdb := Ne.symm hbd; have hdc := Ne.symm hcd
  simp [QuarterRounded, quarterWords, quarterRound, quarterStep_get, *]

/-- A quarter-round on the slots of `T` depends on the words of `S` at those slots alone. -/
theorem QuarterRounded.congr {S S' T T' : Block} {a b c d : Slot} (h : QuarterRounded S T a b c d)
    (hS : S[a] = S'[a] ∧ S[b] = S'[b] ∧ S[c] = S'[c] ∧ S[d] = S'[d])
    (hT : T[a] = T'[a] ∧ T[b] = T'[b] ∧ T[c] = T'[c] ∧ T[d] = T'[d]) : QuarterRounded S' T' a b c d := by
  unfold QuarterRounded at *
  obtain ⟨h1, h2, h3, h4⟩ := hS
  obtain ⟨g1, g2, g3, g4⟩ := hT
  rw [← h1, ← h2, ← h3, ← h4, ← g1, ← g2, ← g3, ← g4, h]

end Sys2Proof.Machine
end

