-- ==== Sys2Proof/Laws/Window.lean ====
section
/-! SUPPORT. The register window (20_memory.md): offsets and registers, what a write can do, and the events one step of
the machine can be. -/

namespace Sys2Proof.Machine

/-! ## Offsets and registers -/

theorem regAt_eq_cmd {off : Offset} (h4 : off.toNat % 4 = 0) : regAt off = some .cmd ↔ off = 0x74 := by
  revert h4; revert off; decide

theorem regAt_regOffset (r : Reg) : regAt (regOffset r) = some r := by
  cases r <;> first | rfl | (rename_i i; revert i; decide)

theorem regOffset_of_regAt : ∀ off : Offset, off.toNat % 4 = 0 → ∀ r, regAt off = some r → regOffset r = off := by
  decide +revert

/-! ## One write, one host operation, one step -/

/-- R34: an aligned write is ignored, dropped, issued or stored. -/
theorem regWrite_cases {off : Offset} {v : Word} {s : State} {o : Host.Outcome State Fault Refusal}
    (hal : off.toNat % 4 = 0) (h : regWrite off v s = o) :
    (regAt off = none ∧ o = .next s) ∨
    (∃ r, off = regOffset r ∧
      ((s.engine.BUSY = true ∧ regGuarded r = true ∧ o = .next (s.raiseError .busyWrite)) ∨
       (s.engine.BUSY = false ∧ r = .cmd ∧ issue v s = o) ∨
       ((s.engine.BUSY = false ∨ regGuarded r = false) ∧ r ≠ .cmd ∧
        o = .next { s with engine := s.engine.writeReg r v }))) := by
  subst h
  unfold regWrite
  cases hr : regAt off with
  | none => exact .inl ⟨rfl, rfl⟩
  | some r =>
    refine .inr ⟨r, (regOffset_of_regAt off hal r hr).symm, ?_⟩
    simp only [writeRegister]
    split
    · simp_all
    · split
      · subst r; simp_all [regGuarded]
      · cases hb : s.engine.BUSY <;> simp_all

/-- R32: what `accessRefused` says. -/
theorem accessRefused_iff (off : Offset) (bytes : Nat) :
    accessRefused off bytes = true ↔ bytes ≠ 4 ∨ off.toNat % 4 ≠ 0 ∨ 256 < off.toNat + bytes := by
  simp [accessRefused, or_assoc]

/-- R31: an access that is not refused is an aligned word of the window. -/
theorem accepted_iff (off : Offset) (bytes : Nat) :
    accessRefused off bytes = false ↔ bytes = 4 ∧ off.toNat % 4 = 0 := by
  have := off.isLt
  rw [← Bool.not_eq_true, accessRefused_iff]
  omega

/-- What one host operation does, when it is not a bus error. -/
theorem perform_cases {op : HostOp} {s t : State} (h : perform op s = .next t) :
    (∃ off, off.toNat % 4 = 0 ∧ op = .read off 4 ∧ t = regRead off s) ∨
    (∃ off v, off.toNat % 4 = 0 ∧ op = .write off 4 v ∧ regWrite off v s = .next t) ∨
    (op = .wait ∧ t = pollStatus s) ∨ (op = .reset ∧ t = applyReset s) := by
  cases op with
  | read off bytes =>
    simp only [perform] at h
    split at h
    · exact nomatch h
    · obtain ⟨rfl, hal⟩ := (accepted_iff off bytes).1 (by simp_all)
      exact .inl ⟨off, hal, rfl, by simpa [eq_comm] using h⟩
  | write off bytes v =>
    simp only [perform] at h
    split at h
    · exact nomatch h
    · obtain ⟨rfl, hal⟩ := (accepted_iff off bytes).1 (by simp_all)
      exact .inr (.inl ⟨off, v, hal, rfl, h⟩)
  | wait => exact .inr (.inr (.inl ⟨rfl, by simpa [perform, eq_comm] using h⟩))
  | reset => exact .inr (.inr (.inr ⟨rfl, by simpa [perform, eq_comm] using h⟩))

theorem completionDue_eq_some {s : State} {i : Instr} : completionDue s = some i ↔ Due s i := by
  refine ⟨fun h => ?_, fun h => by simp [completionDue, h.pending, h.latency]⟩
  unfold completionDue at h
  split at h
  · exact ⟨h, ‹_›⟩
  · exact nomatch h

theorem completionDue_eq_none {s : State} : completionDue s = none ↔ NotDue s := by
  unfold completionDue NotDue
  split <;> simp_all

/-- R92: a completion that is due is the next event. -/
theorem step_due {s : State} {i : Instr} (h : Due s i) : step s = exec i s := by
  simp [step, advance, completionDue_eq_some.2 h]

/-- R43: with no completion due, the host's next operation is the next event. -/
theorem step_next {s : State} {op : HostOp} {rest : List HostOp} (h : Next s op rest) :
    step s = perform op (s.popped rest) := by
  simp [step, advance, completionDue_eq_none.2 h.notDue, h.inputs, State.popped]

/-- The three kinds of event: a completion, nothing at all, or one host operation. -/
theorem step_cases {s : State} {o : Host.Outcome State Fault Refusal} (h : step s = o) :
    (∃ i, Due s i ∧ o = .next (s.complete (commandEffect i))) ∨
    (NotDue s ∧ s.inputs = [] ∧ o = .next s.tick) ∨
    (∃ op rest, Next s op rest ∧ perform op (s.popped rest) = o) := by
  subst h
  cases hd : completionDue s with
  | some i =>
    have hi := completionDue_eq_some.1 hd
    exact .inl ⟨i, hi, by rw [step_due hi, exec_pending hi.pending]⟩
  | none =>
    have hn := completionDue_eq_none.1 hd
    cases hin : s.inputs with
    | nil => exact .inr (.inl ⟨hn, rfl, by simp [step, advance, hd, hin]⟩)
    | cons op rest =>
      have hx : Next s op rest := ⟨hn, hin⟩
      exact .inr (.inr ⟨op, rest, hx, (step_next hx).symm⟩)

/-! ## What a step that answers a next state can have been -/

/-- The condition of an error that a write records (R73, R78). -/
inductive ErrorCause (e : Engine) (r : Reg) (v : Word) : ErrorCode → Prop where
  | busy (hb : e.BUSY = true) (hg : regGuarded r = true) : ErrorCause e r v .busyWrite
  | illegal (hb : e.BUSY = false) (hr : r = .cmd) (x : Illegal) (hd : decode v = .error x) :
      ErrorCause e r v .illegalCmd
  | check (hb : e.BUSY = false) (hr : r = .cmd) (i : Instr) (c : ErrorCode) (hd : decode v = .ok i)
      (hc : commandCheck i e = some c) : ErrorCause e r v c

/-- The events a step can be, with the state each leaves. -/
inductive StepEvent (s : State) : State → Prop where
  /-- R92: the pending command completes. -/
  | completes (i : Instr) (h : Due s i) : StepEvent s (s.complete (commandEffect i))
  /-- R88: nothing happens. -/
  | quiet (hd : NotDue s) (h : s.inputs = []) : StepEvent s s.tick
  /-- R33: a read. -/
  | reads (off : Offset) (rest : List HostOp) (hal : off.toNat % 4 = 0) (h : Next s (.read off 4) rest) :
      StepEvent s (regRead off (s.popped rest))
  /-- R56: a poll. -/
  | polls (rest : List HostOp) (h : Next s .wait rest) : StepEvent s (pollStatus (s.popped rest))
  /-- R89: reset. -/
  | resets (rest : List HostOp) (h : Next s .reset rest) : StepEvent s (applyReset (s.popped rest))
  /-- R35: a write to a reserved offset. -/
  | ignores (off : Offset) (v : Word) (rest : List HostOp) (hal : off.toNat % 4 = 0)
      (h : Next s (.write off 4 v) rest) (hr : regAt off = none) : StepEvent s (s.popped rest)
  /-- R34: a write that is stored, or ignored by a read-only register. -/
  | stores (r : Reg) (v : Word) (rest : List HostOp) (h : Next s (.write (regOffset r) 4 v) rest) (hc : r ≠ .cmd)
      (hb : s.engine.BUSY = false ∨ regGuarded r = false) :
      StepEvent s { s.popped rest with engine := s.engine.writeReg r v }
  /-- R75: a write that records an error. -/
  | raises (r : Reg) (v : Word) (rest : List HostOp) (c : ErrorCode) (h : Next s (.write (regOffset r) 4 v) rest)
      (hc : ErrorCause s.engine r v c) : StepEvent s ((s.popped rest).raiseError c)
  /-- R60: NOP. -/
  | nops (v : Word) (rest : List HostOp) (h : Next s (.write (regOffset .cmd) 4 v) rest) (hb : s.engine.BUSY = false)
      (hd : decode v = .ok .nop) : StepEvent s (s.popped rest)
  /-- R53: a command is accepted. -/
  | accepts (i : Instr) (v : Word) (rest : List HostOp) (h : Next s (.write (regOffset .cmd) 4 v) rest)
      (hb : s.engine.BUSY = false) (hd : decode v = .ok i) (hi : i ≠ .nop)
      (hc : commandCheck i s.engine = none) : StepEvent s ((s.popped rest).accept i)
  /-- A command is written that PEND already holds while BUSY is 0: no state of the invariant does this (log 6). -/
  | inconsistent (i : Instr) (v : Word) (rest : List HostOp) (h : Next s (.write (regOffset .cmd) 4 v) rest)
      (hb : s.engine.BUSY = false) (hp : s.engine.PEND = some i) :
      StepEvent s ((s.popped rest).complete (commandEffect i))

/-- R3, R43, R92: the inversion of a step. -/
theorem step_event {s t : State} (h : step s = .next t) : StepEvent s t := by
  obtain ⟨i, hd, h⟩ | ⟨hd, hin, h⟩ | ⟨op, rest, hx, h⟩ := step_cases h
  · cases h; exact .completes i hd
  · cases h; exact .quiet hd hin
  · obtain ⟨off, hal, rfl, rfl⟩ | ⟨off, v, hal, rfl, hw⟩ | ⟨rfl, rfl⟩ | ⟨rfl, rfl⟩ := perform_cases h
    · exact .reads off rest hal hx
    · obtain ⟨hr, hw⟩ | ⟨r, rfl, ⟨hb, hg, hw⟩ | ⟨hb, rfl, hw'⟩ | ⟨hb, hr, hw⟩⟩ := regWrite_cases hal hw
      · cases hw; exact .ignores off v rest hal hx hr
      · cases hw; exact .raises r v rest .busyWrite hx (.busy hb hg)
      · obtain ⟨⟨x, hd⟩, hi⟩ | ⟨i, hd, hx'⟩ := issue_cases hw'
        · cases hi; exact .raises .cmd v rest .illegalCmd hx (.illegal hb rfl x hd)
        · obtain ⟨hp, he⟩ | ⟨_, hb', _⟩ | ⟨_, _, rfl, he⟩ | ⟨_, _, _, c, hc, he⟩ | ⟨_, _, hi, hc, he⟩ := exec_cases hx'
          · cases he; exact .inconsistent i v rest hx hb hp
          · exact absurd (hb.symm.trans hb') (by decide)
          · cases he; exact .nops v rest hx hb hd
          · cases he; exact .raises .cmd v rest c hx (.check hb rfl i c hd hc)
          · cases he; exact .accepts i v rest hx hb hd hi hc
      · cases hw; exact .stores r v rest hx hr hb
    · exact .polls rest hx
    · exact .resets rest hx

/-! ## STATUS -/

/-- R21: STATUS as a number. -/
theorem statusWord_eq_ofNat (e : Engine) :
    statusWord e = BitVec.ofNat 32 (e.ERRCODE.toNat * 16 + e.ERR.toNat * 2 + e.BUSY.toNat) := by
  unfold statusWord
  generalize e.ERRCODE = c
  generalize e.ERR = r
  generalize e.BUSY = b
  revert c r b
  decide

/-- R21: bit 0 of STATUS is BUSY. -/
theorem showsBusy_statusWord (e : Engine) : showsBusy (statusWord e) = e.BUSY := by
  simp only [showsBusy, statusWord, BitVec.getLsbD_setWidth, BitVec.getLsbD_append]
  cases e.BUSY <;> rfl

/-- R21: ERR and ERRCODE stand in bits 1 and 7:4 of STATUS alone. -/
theorem statusWord_getLsbD_of_sameButError {e e' : Engine} (h : SameButError e e') {k : Nat} (h1 : k ≠ 1)
    (h2 : k < 4 ∨ 8 ≤ k) : (statusWord e).getLsbD k = (statusWord e').getLsbD k := by
  have hb : e'.BUSY = e.BUSY := by rw [h]
  simp only [statusWord, BitVec.getLsbD_setWidth, BitVec.getLsbD_append, hb]
  have : k = 0 ∨ k = 2 ∨ k = 3 ∨ 8 ≤ k := by omega
  rcases this with rfl | rfl | rfl | h8
  · rfl
  · rfl
  · rfl
  · have h4 : 4 ≤ k - 1 - 1 - 2 := by omega
    have h0 : ¬ k < 1 := by omega
    have h1 : ¬ k - 1 < 1 := by omega
    simp only [BitVec.getLsbD_of_ge e.ERRCODE _ h4, BitVec.getLsbD_of_ge e'.ERRCODE _ h4, h0, h1, if_false]

/-- R33, R37: a read of STATUS returns its word, whatever BUSY is. -/
theorem regReadValue_status (s : State) : regReadValue 0x78 s = statusWord s.engine := by
  simp [regReadValue, readIsDraw, regAt, regOwned, Engine.readReg]

/-- R56: what one poll does. -/
theorem pollStatus_eq (s : State) : pollStatus s =
    { s with
      inputs := if s.engine.BUSY then .wait :: s.inputs else s.inputs
      returned := statusWord s.engine :: s.returned } := by
  have : readIsDraw 0x78 s.engine = false := by simp [readIsDraw, regAt, regOwned]
  simp only [pollStatus, regReadValue_status, showsBusy_statusWord, regRead, this]
  cases s.engine.BUSY <;> rfl

/-! ## States that agree but for ERR and ERRCODE -/

theorem SameStateButError.refl (s : State) : SameStateButError s s := ⟨.refl _, rfl, rfl, rfl⟩

theorem SameStateButError.trans {s s' s'' : State} (h : SameStateButError s s') (h' : SameStateButError s' s'') :
    SameStateButError s s'' :=
  ⟨h.engine.trans h'.engine, h'.inputs.trans h.inputs, h'.draws.trans h.draws, h'.latLeft.trans h.latLeft⟩

/-! ## Bus addresses -/

/-- R28: the offset a bus address of the window selects. -/
theorem windowOffset_add (off : Offset) : windowOffset (Config.base + off.toNat) = some off := by
  have := off.isLt
  rw [windowOffset, if_pos (by omega)]
  simp

/-- R28: an address outside the window selects none. -/
theorem windowOffset_eq_none {addr : Nat} (h : addr < Config.base ∨ Config.base + 256 ≤ addr) :
    windowOffset addr = none := by
  rw [windowOffset, if_neg (by omega)]

/-! ## One aligned access as a step, and steps of a run -/

theorem step_read {s : State} {off : Offset} {rest : List HostOp} (h : Next s (.read off 4) rest)
    (hal : off.toNat % 4 = 0) : step s = .next (regRead off (s.popped rest)) := by
  rw [step_next h]
  simp [perform, (accepted_iff off 4).2 ⟨rfl, hal⟩]

theorem step_write {s : State} {off : Offset} {v : Word} {rest : List HostOp} (h : Next s (.write off 4 v) rest)
    (hal : off.toNat % 4 = 0) : step s = regWrite off v (s.popped rest) := by
  rw [step_next h]
  simp [perform, (accepted_iff off 4).2 ⟨rfl, hal⟩]

theorem run_succ {k : Nat} {s t : State} (h : step s = .next t) :
    Host.Core.run core (k + 1) s = Host.Core.run core k t := by
  have run_next : ∀ (M : Host.Core) (s t : M.State), M.step s = .next t → M.run (k + 1) s = M.run k t :=
    fun M s t h => by rw [Host.Core.run, h]
  exact run_next core s t h

end Sys2Proof.Machine
end

