-- ==== Sys2Proof/Tests/Slice0.lean ====
section
/-! SUPPORT. Tests of the model against the words and vectors of spec/95_test_vectors.md and 30_encoding.md, the smoke
test of WellFormed, and a witness for the hypotheses of every statement. -/

namespace Sys2Proof.Tests

open Sys2Proof Sys2Proof.Machine

/-! ## Helpers -/

/-- An idle engine with the state words `S`. -/
def withWords (S : Block) : Engine := { Engine.reset with S := S }

/-- A state around an engine, with the host's operations. -/
def around (e : Engine) (ops : List HostOp) : State := { State.reset with engine := e, inputs := ops }

/-- An engine on which `i` is pending. -/
def pendingOn (e : Engine) (i : Instr) : Engine := { e with PEND := some i, BUSY := true }

/-- The engine a step leaves, if it answers a next state. -/
def engineAfter (o : Host.Outcome State Fault Refusal) : Option Engine :=
  match o with
  | .next t => some t.engine
  | .fault _ => none
  | .refused _ => none

/-- The state words a step leaves. -/
def wordsAfter (o : Host.Outcome State Fault Refusal) : Option Block := (engineAfter o).map fun e => e.S

/-- The STATUS word a step leaves. -/
def statusAfter (o : Host.Outcome State Fault Refusal) : Option Word := (engineAfter o).map statusWord

/-- The values reads have returned after a step. -/
def returnedAfter (o : Host.Outcome State Fault Refusal) : Option (List Word) :=
  match o with
  | .next t => some t.returned
  | .fault _ => none
  | .refused _ => none

/-- KEY-A and NONCE-A of 95_test_vectors.md, COUNTER 1, all latched. -/
def latchedA : Engine :=
  { Engine.reset with
    K := #v[0x03020100, 0x07060504, 0x0b0a0908, 0x0f0e0d0c, 0x13121110, 0x17161514, 0x1b1a1918, 0x1f1e1d1c]
    KV := 0xff
    N := #v[0x09000000, 0x4a000000, 0x00000000]
    NV := 7
    CTR := 1 }

/-- V-INIT-2: the state of the all-zero key, nonce and counter. -/
def zeroInit : Block :=
  #v[0x61707865, 0x3320646e, 0x79622d32, 0x6b206574, 0, 0, 0, 0, 0, 0, 0, 0, 0, 0, 0, 0]

/-! ## Decoding: words written out from 30_encoding.md R48, R49 and the examples of R70 and 95_test_vectors.md -/

theorem test_decode_nop : decode 0b00000000000000000000000000000000#32 = .ok .nop := by decide
theorem test_decode_init : decode 0b00000000000000000000000000000001#32 = .ok .init := by decide
/-- 41_permutation.md R70: `qr 2,7,8,13`; RSV1 00000000, QD 1101, QC 1000, QB 0111, QA 0010, RSV0 0000, OP 0010. -/
theorem test_decode_qr : decode 0b00000000110110000111001000000010#32 = .ok (.qr 2 7 8 13) := by decide
theorem test_decode_dround : decode 0b00000000000000000000000000000011#32 = .ok .dround := by decide
theorem test_decode_block : decode 0b00000000000000000000000000000100#32 = .ok .block := by decide
theorem test_decode_clrin : decode 0b00000000000000000000000000000101#32 = .ok .clrin := by decide
/-- R51: OP 6 and 15 are reserved. -/
theorem test_decode_reserved : decode 0x6 = .error .reservedOpcode ∧ decode 0xf = .error .reservedOpcode := by decide
/-- V-QR-E2, V-QR-E3, V-ACC-8. -/
theorem test_decode_illegal :
    decode 0x00321012 = .error .rsv0Set ∧ decode 0x01321002 = .error .rsv1Set ∧
    decode 0x00000103 = .error .indexBitsSet := by decide
/-- The table's row of QR with every operand bit 0 is still a word of QR. -/
theorem test_decode_table_word : decodeTableWord 32 2 = some (.qr 0 0 0 0) ∧ decodeTableWord 8 5 = some .clrin := by
  decide
/-- P5 of 95_test_vectors.md: the words of `colpass` and `diagpass`. -/
theorem test_pass_words :
    (expand .colpass ++ expand .diagpass).filter (· ≠ .wait) =
      [0x00c84002, 0x00d95102, 0x00ea6202, 0x00fb7302, 0x00fa5002, 0x00cb6102, 0x00d87202, 0x00e94302].map
        commandWrite := by decide

/-! ## WellFormed refuses each pair of equal slots (R52) -/

theorem test_wellFormed_refuses :
    Instr.wellFormed (.qr 0 0 1 2) = false ∧ Instr.wellFormed (.qr 0 1 0 2) = false ∧
    Instr.wellFormed (.qr 0 1 2 0) = false ∧ Instr.wellFormed (.qr 0 1 1 2) = false ∧
    Instr.wellFormed (.qr 0 1 2 1) = false ∧ Instr.wellFormed (.qr 0 1 2 2) = false ∧
    Instr.wellFormed (.qr 0 1 2 3) = true := by decide

/-! ## One step of each command -/

/-- V-ACC-7. -/
theorem test_nop : exec .nop State.reset = .next State.reset := rfl

/-- V-INIT-1. -/
theorem test_init_builds :
    wordsAfter (step (around (pendingOn latchedA .init) [])) = some
      #v[0x61707865, 0x3320646e, 0x79622d32, 0x6b206574, 0x03020100, 0x07060504, 0x0b0a0908, 0x0f0e0d0c,
         0x13121110, 0x17161514, 0x1b1a1918, 0x1f1e1d1c, 0x00000001, 0x09000000, 0x4a000000, 0x00000000] := by
  decide

/-- V-ERR-4: right after reset, INIT records KEY_LENGTH. -/
theorem test_init_fails : statusAfter (step (State.reset.withFetchWord 32 1)) = some 0x12 := by decide

/-- V-QR-1, §8's vector. -/
theorem test_qr_vector :
    wordsAfter (step (around (pendingOn (withWords
      #v[0x11111111, 0x01020304, 0x9b8d6f43, 0x01234567, 0, 0, 0, 0, 0, 0, 0, 0, 0, 0, 0, 0]) (.qr 0 1 2 3)) [])) =
    some #v[0xea2a92f4, 0xcb1cf8ce, 0x4581472e, 0x5881c4bb, 0, 0, 0, 0, 0, 0, 0, 0, 0, 0, 0, 0] := by decide

/-- V-QR-E1. -/
theorem test_qr_alias : statusAfter (step (State.reset.withFetchWord 32 0x00210002)) = some 0x42 := by decide

/-- V-DR-1. -/
theorem test_dround_vector :
    wordsAfter (step (around (pendingOn (withWords zeroInit) .dround) [])) = some
      #v[0xe45fd249, 0x1bb820a6, 0xe31a88ea, 0xe667a9fe, 0x2a3bf673, 0x86bf4098, 0x460b500a, 0xfa169886,
         0x538dca0e, 0x0c439641, 0x00fa16bc, 0x8a08812a, 0x6bbf8b09, 0xc33013d6, 0xbb9f9849, 0x87c62165] := by
  decide +kernel

/-- V-BLK-2. -/
theorem test_block_vector :
    wordsAfter (step (around (pendingOn (withWords zeroInit) .block) [])) = some
      #v[0xade0b876, 0x903df1a0, 0xe56a5d40, 0x28bd8653, 0xb819d2bd, 0x1aed8da0, 0xccef36a8, 0xc70d778b,
         0x7c5941da, 0x8d485751, 0x3fe02477, 0x374ad8b8, 0xf4b8436a, 0x1ca11815, 0x69b687c3, 0x8665eeb2] := by
  decide +kernel

/-- V-BLK-1: O holds the V-INIT-1 state. -/
theorem test_block_snapshot :
    (engineAfter (step (around (pendingOn (withWords zeroInit) .block) []))).map (fun e => e.O) = some zeroInit := by
  decide +kernel

/-- After V-ERR-3: COUNTER and every KEY and NONCE read 0. -/
theorem test_clrin :
    engineAfter (step (around (pendingOn latchedA .clrin) [])) = some Engine.reset := by decide

/-! ## The window -/

/-- V-ERR-1: LATCHV with KEY7 not written. -/
theorem test_read_latchv :
    returnedAfter (step (around { latchedA with KV := 0x7f } [.read 0x70 4])) = some [0x0000077f] := by decide

/-- V-ACC-1. -/
theorem test_read_const : returnedAfter (step (around Engine.reset [.read 0x84 4])) = some [0x3320646e] := by decide

/-- V-ACC-4: a 32-bit access at offset 2. -/
theorem test_misaligned_faults : step (around Engine.reset [.read 0x02 4]) = .fault (busError 0x02 4) := rfl

/-- V-BUSY-1: the write of 7 is dropped and BUSY_WRITE recorded; LAT is 1 here. -/
theorem test_busy_write :
    statusAfter (step { around (pendingOn Engine.reset .dround) [.write 0x00 4 7] with latLeft := 1 }) = some 0x53 := by
  decide

/-- V-ACC-5, V-ACC-6. -/
theorem test_clear_error :
    statusAfter (step (around { Engine.reset with ERR := true, ERRCODE := 3 } [.write 0x78 4 1])) = some 0x32 ∧
    statusAfter (step (around { Engine.reset with ERR := true, ERRCODE := 3 } [.write 0x78 4 2])) = some 0x00 := by
  decide

/-! ## Witnesses: for every statement that has hypotheses, concrete inputs that meet them, clause by clause -/

/-- An engine with a DROUND pending. -/
def busyEngine : Engine := pendingOn Engine.reset .dround

/-- Three steps before a completion. -/
def busyState (ops : List HostOp) : State := { around busyEngine ops with latLeft := 3 }

theorem idle_reset : Engine.reset.idle := ⟨rfl, rfl⟩
theorem idle_latchedA : latchedA.idle := ⟨rfl, rfl⟩
theorem next_idle : Next (around Engine.reset [.wait]) .wait [] := ⟨fun _ => rfl, rfl⟩
theorem next_busy : Next (busyState [.wait]) .wait [] := ⟨fun h => absurd h (by decide), rfl⟩
theorem due_dround : Due (around busyEngine []) .dround := ⟨rfl, rfl⟩
theorem inv_reset : Engine.reset.Inv := by constructor <;> simp [Engine.reset]
theorem inv_busyEngine : busyEngine.Inv := by
  constructor <;> simp [busyEngine, pendingOn, Engine.reset, Engine.pendingChecked]

theorem witness_EncodeOfDecodeIsTheWord : decode 0x00fedc02 = .ok (.qr 12 13 14 15) := by decide

theorem witness_LegalWordsAreTheCommands :
    ¬ LegalWord 6 ∧ ¬ LegalWord 0x01000000 ∧ ¬ LegalWord 0x00000010 ∧ ¬ LegalWord 0x00000100 := by decide

theorem witness_IssueChecksInOrder :
    State.reset.engine.idle ∧ ¬ LegalWord 6 ∧ Engine.reset.KV.getLsbD 7 = false ∧
    (∀ j : Fin 8, latchedA.KV.getLsbD j = true) ∧ (∀ j : Fin 3, latchedA.NV.getLsbD j = true) ∧
    (∃ j : Fin 3, ({ latchedA with NV := 3 } : Engine).NV.getLsbD j = false) ∧
    LegalWord 0x00ffff02 ∧ LegalWord 0x00fedc02 ∧
    ¬ [(0x00ffff02 : Word).extractLsb' 8 4, (0x00ffff02 : Word).extractLsb' 12 4,
      (0x00ffff02 : Word).extractLsb' 16 4, (0x00ffff02 : Word).extractLsb' 20 4].Nodup ∧
    [(0x00fedc02 : Word).extractLsb' 8 4, (0x00fedc02 : Word).extractLsb' 12 4,
      (0x00fedc02 : Word).extractLsb' 16 4, (0x00fedc02 : Word).extractLsb' 20 4].Nodup := by
  exact ⟨idle_reset, by decide⟩

theorem witness_StepRunsTheDecodedCommand :
    (around Engine.reset [.write 0x74 4 1]).engine.idle ∧ decode 1 = .ok .init ∧
    Due (around busyEngine []) .dround ∧ decodeTableWord 32 4 = some .block :=
  ⟨idle_reset, by decide, due_dround, by decide⟩

theorem witness_IdleEngineHoldsItsState : State.reset.engine.PEND = none ∧ State.reset.inputs = [] := ⟨rfl, rfl⟩

theorem witness_WaitPollsUntilIdle :
    Next (around Engine.reset [.wait]) .wait [] ∧ Next (busyState [.wait]) .wait [] := ⟨next_idle, next_busy⟩

theorem witness_InitBuildsTheState :
    Engine.reset.idle ∧ (∃ j : Fin 8, Engine.reset.KV.getLsbD j = false) ∧
    latchedA.idle ∧ (∀ j : Fin 8, latchedA.KV.getLsbD j = true) ∧ (∀ j : Fin 3, latchedA.NV.getLsbD j = true) ∧
    (∃ j : Fin 3, ({ latchedA with NV := 3 } : Engine).NV.getLsbD j = false) ∧
    (pendingOn latchedA .init).PEND = some .init ∧
    (0x00000101 : Word).extractLsb' 0 4 = 1 ∧ (0x00000101 : Word) ≠ 1 ∧ busyEngine.BUSY = true :=
  ⟨idle_reset, by decide, idle_latchedA, by decide⟩

theorem witness_InitReportsTheKeyFirst :
    Engine.reset.idle ∧ Engine.reset.ERR = false ∧ (∃ j : Fin 8, Engine.reset.KV.getLsbD j = false) ∧
    ∃ j : Fin 3, Engine.reset.NV.getLsbD j = false := ⟨idle_reset, by decide⟩

theorem witness_ClrinClearsTheLatches :
    latchedA.idle ∧ (pendingOn latchedA .clrin).PEND = some .clrin ∧
    (0x00000105 : Word).extractLsb' 0 4 = 5 ∧ (0x00000105 : Word).extractLsb' 4 28 ≠ 0 ∧ busyEngine.BUSY = true ∧
    exec .clrin (around (pendingOn latchedA .clrin) []) =
      .next ((around (pendingOn latchedA .clrin) []).complete clrinEffect) :=
  ⟨idle_latchedA, by decide, by decide, by decide, by decide, rfl⟩

theorem witness_NopChangesNothing :
    Engine.reset.idle ∧ (0x00000100 : Word).extractLsb' 0 4 = 0 ∧ (0x00000100 : Word).extractLsb' 4 28 ≠ 0 ∧
    busyEngine.BUSY = true := ⟨idle_reset, by decide⟩

theorem witness_QrMixesItsFourSlots :
    Engine.reset.idle ∧ ¬ [(15 : Slot), 0, 1, 15].Nodup ∧ [(15 : Slot), 0, 7, 8].Nodup ∧
    (pendingOn Engine.reset (.qr 15 0 7 8)).PEND = some (.qr 15 0 7 8) ∧
    (0x00321012 : Word).extractLsb' 0 4 = 2 ∧ (0x00321012 : Word).extractLsb' 4 4 ≠ 0 ∧
    (0x01321002 : Word).extractLsb' 0 4 = 2 ∧ (0x01321002 : Word).extractLsb' 24 8 ≠ 0 ∧ busyEngine.BUSY = true :=
  ⟨idle_reset, by decide⟩

theorem witness_DroundMixesColumnsThenDiagonals :
    Engine.reset.idle ∧ busyEngine.PEND = some .dround ∧ busyEngine.BUSY = true ∧
    (0x00000103 : Word).extractLsb' 0 4 = 3 ∧ (0x00000103 : Word).extractLsb' 4 28 ≠ 0 := ⟨idle_reset, by decide⟩

theorem witness_BlockMakesTheKeystreamBlock :
    Engine.reset.idle ∧ (pendingOn Engine.reset .block).PEND = some .block ∧ busyEngine.BUSY = true ∧
    (0x80000004 : Word).extractLsb' 0 4 = 4 ∧ (0x80000004 : Word).extractLsb' 4 28 ≠ 0 := ⟨idle_reset, by decide⟩

theorem witness_QuarterRoundsOfAPassCommute :
    [((3, 7, 11, 15) : Slot × Slot × Slot × Slot), (0, 4, 8, 12), (1, 5, 9, 13), (2, 6, 10, 14)].Perm
      [(0, 4, 8, 12), (1, 5, 9, 13), (2, 6, 10, 14), (3, 7, 11, 15)] ∧
    [((3, 4, 9, 14) : Slot × Slot × Slot × Slot), (0, 5, 10, 15), (1, 6, 11, 12), (2, 7, 8, 13)].Perm
      [(0, 5, 10, 15), (1, 6, 11, 12), (2, 7, 8, 13), (3, 4, 9, 14)] := by decide

theorem witness_ZeroBlockIsAFixedPoint_and_RoundsAreBijections : [(15 : Slot), 0, 7, 8].Nodup := by decide

/-- Each clause of the read map at the ends of its range of offsets. -/
theorem witness_RegReadFollowsTheMap :
    Next (busyState [.read 0xFC 4]) (.read 0xFC 4) [] ∧ busyEngine.BUSY = true ∧
    OwnedOffset 0x00 ∧ OwnedOffset 0x70 ∧ OwnedOffset 0xC0 ∧ OwnedOffset 0xFC ∧
    ¬ OwnedOffset 0x74 ∧ ¬ OwnedOffset 0xBC ∧
    Next (around Engine.reset [.read 0x3C 4]) (.read 0x3C 4) [] ∧ Engine.reset.BUSY = false ∧
    (0x3C : Offset).toNat = 4 * (15 : Fin 16) ∧
    (0x40 : Offset).toNat = 0x40 + 4 * (0 : Fin 8) ∧ (0x5C : Offset).toNat = 0x40 + 4 * (7 : Fin 8) ∧
    (0x64 : Offset).toNat = 0x64 + 4 * (0 : Fin 3) ∧ (0x6C : Offset).toNat = 0x64 + 4 * (2 : Fin 3) ∧
    (0xC0 : Offset).toNat = 0xC0 + 4 * (0 : Fin 16) ∧ (0xFC : Offset).toNat = 0xC0 + 4 * (15 : Fin 16) ∧
    (0x80 : Offset).toNat = 0x80 + 4 * (0 : Fin 4) ∧ (0x8C : Offset).toNat = 0x80 + 4 * (3 : Fin 4) ∧
    ReservedOffset 0x7C ∧ ReservedOffset 0x90 ∧ ReservedOffset 0xBC ∧
    ¬ ReservedOffset 0x8C ∧ ¬ ReservedOffset 0xC0 :=
  ⟨⟨fun h => absurd h (by decide), rfl⟩, by decide, by decide, by decide, by decide, by decide, by decide, by decide,
    ⟨fun _ => rfl, rfl⟩, by decide⟩

/-- Each clause of the write map at the ends of its range of offsets. -/
theorem witness_RegWriteFollowsTheMap :
    Next (busyState [.write 0x6C 4 7]) (.write 0x6C 4 7) [] ∧ busyEngine.BUSY = true ∧
    GuardedOffset 0x00 ∧ GuardedOffset 0x6C ∧ GuardedOffset 0x74 ∧
    ¬ GuardedOffset 0x70 ∧ ¬ GuardedOffset 0x78 ∧
    Next (around Engine.reset [.write 0x3C 4 7]) (.write 0x3C 4 7) [] ∧ Engine.reset.BUSY = false ∧
    (0x3C : Offset).toNat = 4 * (15 : Fin 16) ∧
    (0x40 : Offset).toNat = 0x40 + 4 * (0 : Fin 8) ∧ (0x5C : Offset).toNat = 0x40 + 4 * (7 : Fin 8) ∧
    (0x64 : Offset).toNat = 0x64 + 4 * (0 : Fin 3) ∧ (0x6C : Offset).toNat = 0x64 + 4 * (2 : Fin 3) ∧
    (0x80 ≤ (0x80 : Offset).toNat ∧ (0x8C : Offset).toNat ≤ 0x8C) ∧ 0xC0 ≤ (0xC0 : Offset).toNat ∧
    ReservedOffset 0x7C ∧ ReservedOffset 0x90 ∧ ReservedOffset 0xBC :=
  ⟨⟨fun h => absurd h (by decide), rfl⟩, by decide, by decide, by decide, by decide, by decide, by decide,
    ⟨fun _ => rfl, rfl⟩, by decide⟩

theorem witness_ReservedAndReadOnlyIgnoreWrites :
    Next (busyState [.write 0x7C 4 7]) (.write 0x7C 4 7) [] ∧ Next (around Engine.reset [.write 0xFC 4 7]) (.write 0xFC 4 7) [] ∧
    Next (busyState [.read 0xBC 4]) (.read 0xBC 4) [] ∧ ReservedOffset 0x7C ∧ ReservedOffset 0xBC ∧
    Engine.reset.BUSY = false ∧ (0xfffffffd : Word).getLsbD 1 = (0 : Word).getLsbD 1 :=
  ⟨⟨fun h => absurd h (by decide), rfl⟩, ⟨fun _ => rfl, rfl⟩, ⟨fun h => absurd h (by decide), rfl⟩, by decide⟩

theorem witness_BusyWritesAreDropped :
    Next (busyState [.write 0x00 4 7]) (.write 0x00 4 7) [] ∧ Next (busyState [.write 0x78 4 2]) (.write 0x78 4 2) [] ∧
    busyEngine.BUSY = true ∧ GuardedOffset 0x00 ∧ GuardedOffset 0x6C ∧ GuardedOffset 0x74 ∧ busyEngine.ERR = false ∧
    ({ busyEngine with ERR := true, ERRCODE := 3 } : Engine).ERR = true :=
  ⟨⟨fun h => absurd h (by decide), rfl⟩, ⟨fun h => absurd h (by decide), rfl⟩, by decide⟩

theorem witness_BusyReadsAreFreshDraws :
    Next (busyState [.read 0x00 4, .read 0xFC 4]) (.read 0x00 4) [.read 0xFC 4] ∧ busyEngine.BUSY = true ∧
    OwnedOffset 0x00 ∧ OwnedOffset 0xFC ∧ 2 ≤ (busyState []).latLeft :=
  ⟨⟨fun h => absurd h (by decide), rfl⟩, by decide⟩

/-- Refused by width, by alignment and past the end; accepted at the last word of the window. -/
theorem witness_RefusedAccessesAreBusErrors :
    Next (around Engine.reset [.read 0xFC 8]) (.read 0xFC 8) [] ∧ Next (around Engine.reset [.write 0x02 4 7]) (.write 0x02 4 7) [] ∧
    (2 ≠ 4 ∧ (0x02 : Offset).toNat % 4 ≠ 0 ∧ 256 < (0xFC : Offset).toNat + 8) ∧
    Next (around Engine.reset [.read 0xFC 4]) (.read 0xFC 4) [] ∧
    ¬ (4 ≠ 4 ∨ (0xFC : Offset).toNat % 4 ≠ 0 ∨ 256 < (0xFC : Offset).toNat + 4) :=
  ⟨⟨fun _ => rfl, rfl⟩, ⟨fun _ => rfl, rfl⟩, by decide, ⟨fun _ => rfl, rfl⟩, by decide⟩

/-- The last address of the window and the first beyond it, each with what the statement says of it. -/
theorem witness_WindowHoldsItsBusAddresses :
    windowOffset (busAddress 0xFF) = some 0xFF ∧
    (Config.base ≤ Config.base + 255 ∧ Config.base + 255 < Config.base + 256 ∧
      busReadOp (Config.base + 255) 4 = some (.read 0xFF 4)) ∧
    (Config.base + 256 < Config.base ∨ Config.base + 256 ≤ Config.base + 256) ∧
    busReadOp (Config.base + 256) 4 = none := by
  have h := windowOffset_add 0xFF
  refine ⟨h, ⟨by omega, by omega, ?_⟩, by omega, ?_⟩
  · exact congrArg (Option.map _) h
  · exact congrArg (Option.map _) (windowOffset_eq_none (.inr (Nat.le_refl _)))

theorem witness_RepeatedWritesAreIdempotent :
    (0x40 : Offset).toNat % 4 = 0 ∧ (0x40 : Offset) ≠ 0x74 ∧
    regWrite 0x40 7 State.reset = .next { State.reset with engine := Engine.reset.latchKey 0 7 } :=
  ⟨by decide, by decide, rfl⟩

theorem witness_FirstErrorIsKept : Engine.reset.ERR = false ∧ ({ Engine.reset with ERR := true } : Engine).ERR = true :=
  ⟨rfl, rfl⟩

/-- A state with ERR set, for each of the three clauses. -/
theorem witness_ErrorsStayUntilCleared :
    Next (around { Engine.reset with ERR := true, ERRCODE := 4 } [.write 0x78 4 2]) (.write 0x78 4 2) [] ∧
    (2 : Word).getLsbD 1 = true ∧
    Next (around { Engine.reset with ERR := true, ERRCODE := 4 } [.reset]) .reset [] ∧
    step (around { Engine.reset with ERR := true, ERRCODE := 4 } []) =
      .next (around { Engine.reset with ERR := true, ERRCODE := 4 } []) :=
  ⟨⟨fun _ => rfl, rfl⟩, by decide, ⟨fun _ => rfl, rfl⟩, rfl⟩

/-- An error recorded: INIT right after reset. -/
theorem witness_RecordedErrorsHaveTheirCause :
    (around Engine.reset [.write 0x74 4 1]).engine.Inv ∧
    step (around Engine.reset [.write 0x74 4 1]) = .next (around (Engine.reset.raiseError .keyLength) []) ∧
    Engine.reset.ERR = false ∧ (Engine.reset.raiseError .keyLength).ERR = true :=
  ⟨inv_reset, rfl, rfl, rfl⟩

/-- Two states that differ in ERR, ERRCODE and what was returned: a read of STATUS, a write and a refused access. -/
theorem witness_ErrorDoesNotBlockTheEngine :
    let raised : Engine := { Engine.reset with ERR := true, ERRCODE := 3 }
    let s (ops : List HostOp) := around Engine.reset ops
    let s' (ops : List HostOp) : State := { around raised ops with returned := [7] }
    (∀ ops, SameStateButError (s ops) (s' ops)) ∧
    NextReadsStatus (s [.read 0x78 4]) ∧ NextReadsStatus (s [.wait]) ∧
    step (s [.read 0x78 4]) = .next { s [] with returned := [0x00] } ∧
    step (s' [.read 0x78 4]) = .next { s' [] with returned := [0x32, 7] } ∧
    step (s [.write 0x60 4 7]) = .next (around (Engine.reset.writeCTR 7) []) ∧
    step (s [.read 0x02 4]) = .fault (busError 0x02 4) :=
  ⟨fun _ => ⟨rfl, rfl, rfl, rfl⟩, ⟨[], .inl ⟨fun _ => rfl, rfl⟩⟩, ⟨[], .inr ⟨fun _ => rfl, rfl⟩⟩, rfl, rfl, rfl, rfl⟩

theorem witness_ResetGivesTheResetValues :
    Next (busyState [.reset, .wait]) .reset [.wait] := ⟨fun h => absurd h (by decide), rfl⟩

/-- A step on a state of the invariant: a busy write, and one on an idle engine. -/
theorem witness_StepKeepsTheInvariant :
    (busyState [.write 0x00 4 7]).engine.Inv ∧
    step (busyState [.write 0x00 4 7]) =
      .next { busyState [] with engine := busyEngine.raiseError .busyWrite, latLeft := 2 } := ⟨inv_busyEngine, rfl⟩

/-- BUSY set by an acceptance, and cleared by a completion. -/
theorem witness_BusyChangesByAcceptanceAndCompletion :
    Engine.reset.Inv ∧
    step (around Engine.reset [.write 0x74 4 3]) = .next ((around Engine.reset []).accept .dround) ∧
    Engine.reset.BUSY = false ∧ ((around Engine.reset []).accept .dround).engine.BUSY = true ∧
    busyEngine.Inv ∧ step (around busyEngine []) = .next ((around busyEngine []).complete droundEffect) ∧
    busyEngine.BUSY = true ∧ ((around busyEngine []).complete droundEffect).engine.BUSY = false :=
  ⟨inv_reset, rfl, rfl, rfl, inv_busyEngine, rfl, rfl, rfl⟩

theorem witness_PendingCommandIsUndisturbed :
    (busyState [.write 0x40 4 7]).engine.Inv ∧ (busyState [.write 0x40 4 7]).engine.PEND = some .dround ∧
    0 < (busyState [.write 0x40 4 7]).latLeft ∧ (∀ rest, (busyState [.write 0x40 4 7]).inputs ≠ .reset :: rest) ∧
    step (busyState [.write 0x40 4 7]) =
      .next { busyState [] with engine := busyEngine.raiseError .busyWrite, latLeft := 2 } :=
  ⟨inv_busyEngine, rfl, by decide, (fun rest h => by simp [busyState, around] at h), rfl⟩

/-- The state words change: by a host write. -/
theorem witness_StateWordsChangeOnlyAsListed :
    (around Engine.reset [.write 0x3C 4 7]).engine.Inv ∧
    step (around Engine.reset [.write 0x3C 4 7]) = .next (around (Engine.reset.writeS 15 7) []) ∧
    (Engine.reset.writeS 15 7).S ≠ Engine.reset.S := ⟨inv_reset, rfl, by decide⟩

/-- The latches change: each by a host write. -/
theorem witness_LatchesChangeOnlyAsListed :
    Engine.reset.Inv ∧
    step (around Engine.reset [.write 0x5C 4 7]) = .next (around (Engine.reset.latchKey 7 7) []) ∧
    (Engine.reset.latchKey 7 7).K ≠ Engine.reset.K ∧
    step (around Engine.reset [.write 0x6C 4 7]) = .next (around (Engine.reset.latchNonce 2 7) []) ∧
    (Engine.reset.latchNonce 2 7).N ≠ Engine.reset.N ∧
    step (around Engine.reset [.write 0x60 4 7]) = .next (around (Engine.reset.writeCTR 7) []) ∧
    (Engine.reset.writeCTR 7).CTR ≠ Engine.reset.CTR :=
  ⟨inv_reset, rfl, by decide, rfl, by decide, rfl, by decide⟩

/-- The snapshot changes: by BLOCK. -/
theorem witness_SnapshotIsWrittenByBlockOnly :
    (pendingOn (withWords zeroInit) .block).Inv ∧
    step (around (pendingOn (withWords zeroInit) .block) []) =
      .next ((around (pendingOn (withWords zeroInit) .block) []).complete blockEffect) ∧
    zeroInit ≠ Engine.reset.O := by
  refine ⟨?_, by rw [step_due ⟨rfl, rfl⟩, exec_pending rfl]; simp [commandEffect], by decide⟩
  constructor <;> simp [pendingOn, withWords, Engine.reset, Engine.pendingChecked]

theorem witness_AcceptedCommandsComplete :
    (busyState [.write 0x00 4 7, .wait]).engine.Inv ∧ (busyState [.write 0x00 4 7, .wait]).Safe ∧
    .reset ∉ (busyState [.write 0x00 4 7, .wait]).inputs ∧
    (busyState [.write 0x00 4 7, .wait]).engine.PEND = some .dround := by
  refine ⟨inv_busyEngine, ?_, by decide, rfl⟩
  intro op hop
  simp [busyState, around] at hop
  rcases hop with rfl | rfl
  · show accessRefused 0x00 4 = false
    decide
  · trivial

end Sys2Proof.Tests
end

section
/-! PROOFS of the family 10_state.md: what one step can do to the engine in a state of the invariant
(`EngineChange`), and from it the statements on the invariant, BUSY, the state words, the latches and the snapshot. -/

namespace Sys2Proof.Machine

/-! ## What a register write changes -/

theorem Engine.writeReg_error_of_ne_status {r : Reg} (hr : r ≠ .status) (v : Word) (e : Engine) :
    (e.writeReg r v).ERR = e.ERR ∧ (e.writeReg r v).ERRCODE = e.ERRCODE := by
  cases r <;> simp_all [Engine.writeReg]

/-- R36: the registers that BUSY does not guard are apart from the valid bits. -/
theorem Engine.writeReg_valid_of_unguarded {r : Reg} (hr : regGuarded r = false) (v : Word) (e : Engine) :
    (e.writeReg r v).KV = e.KV ∧ (e.writeReg r v).NV = e.NV := by
  cases r <;> simp_all [regGuarded, Engine.writeReg]

theorem Engine.writeReg_S_changes {r : Reg} {v : Word} {e : Engine} (h : (e.writeReg r v).S ≠ e.S) :
    ∃ i, r = .state i := by
  cases r <;> simp_all [Engine.writeReg]

theorem Engine.writeReg_key_changes {r : Reg} {v : Word} {e : Engine}
    (h : (e.writeReg r v).K ≠ e.K ∨ (e.writeReg r v).KV ≠ e.KV) : ∃ j, r = .key j := by
  cases r <;> simp_all [Engine.writeReg]

theorem Engine.writeReg_nonce_changes {r : Reg} {v : Word} {e : Engine}
    (h : (e.writeReg r v).N ≠ e.N ∨ (e.writeReg r v).NV ≠ e.NV) : ∃ j, r = .nonce j := by
  cases r <;> simp_all [Engine.writeReg]

theorem Engine.writeReg_CTR_changes {r : Reg} {v : Word} {e : Engine} (h : (e.writeReg r v).CTR ≠ e.CTR) :
    r = .counter := by
  cases r <;> simp_all [Engine.writeReg]

theorem regOffset_state_toNat (i : Slot) : (regOffset (.state i)).toNat = 4 * i := by
  revert i; decide

theorem regOffset_key_toNat (j : Fin 8) : (regOffset (.key j)).toNat = 0x40 + 4 * j := by
  revert j; decide

theorem regOffset_nonce_toNat (j : Fin 3) : (regOffset (.nonce j)).toNat = 0x64 + 4 * j := by
  revert j; decide

/-! ## What a command's effect changes -/

@[simp] theorem commandEffect_ERR (i : Instr) (e : Engine) : (commandEffect i e).ERR = e.ERR := by
  cases i <;> simp [commandEffect]

@[simp] theorem commandEffect_ERRCODE (i : Instr) (e : Engine) : (commandEffect i e).ERRCODE = e.ERRCODE := by
  cases i <;> simp [commandEffect]

/-- R13: NOP and CLRIN leave the state words. -/
theorem commandEffect_S_changes {i : Instr} {e : Engine} (h : (commandEffect i e).S ≠ e.S) :
    i ≠ .nop ∧ i ≠ .clrin :=
  ⟨by rintro rfl; exact h rfl, by rintro rfl; exact h rfl⟩

/-- R16 to R18: only CLRIN touches the latches. -/
theorem commandEffect_latches {i : Instr} (hi : i ≠ .clrin) (e : Engine) :
    (commandEffect i e).K = e.K ∧ (commandEffect i e).KV = e.KV ∧ (commandEffect i e).N = e.N ∧
      (commandEffect i e).NV = e.NV ∧ (commandEffect i e).CTR = e.CTR := by
  cases i <;> simp_all [commandEffect]

/-- R20: only BLOCK touches the snapshot. -/
theorem commandEffect_O_changes {i : Instr} {e : Engine} (h : (commandEffect i e).O ≠ e.O) : i = .block := by
  cases i <;> simp_all [commandEffect]

@[simp] theorem blockEffect_O (e : Engine) : (blockEffect e).O = e.S := by
  simp [blockEffect]

/-! ## The invariant under each operation of the engine -/

/-- What is checked of a pending command rests on the valid bits alone. -/
theorem Engine.pendingChecked_congr {e e' : Engine} (hK : e'.KV = e.KV) (hN : e'.NV = e.NV) (i : Instr) :
    e'.pendingChecked i ↔ e.pendingChecked i := by
  cases i <;> simp [Engine.pendingChecked, keyComplete, nonceComplete, hK, hN]

/-- R57, R70: the checks at issue establish what the invariant asks of a pending command. -/
theorem pendingChecked_of_commandCheck {i : Instr} {e : Engine} (hi : i ≠ .nop) (hc : commandCheck i e = none) :
    e.pendingChecked i := by
  cases i with
  | nop => exact absurd rfl hi
  | init =>
    simp only [commandCheck, initCheck] at hc
    cases hK : keyComplete e <;> cases hN : nonceComplete e <;> simp_all [Engine.pendingChecked]
  | qr a b c d => simpa [commandCheck, qrCheck, Engine.pendingChecked] using hc
  | dround => trivial
  | block => trivial
  | clrin => trivial

theorem Engine.Inv.pend_eq_none {e : Engine} (h : e.Inv) (hb : e.BUSY = false) : e.PEND = none := by
  by_contra hp
  exact absurd (hb.symm.trans (h.busy_iff.2 hp)) (by decide)

/-- An engine with the error of one of the invariant needs the two facts on PEND alone. -/
theorem Engine.Inv.of_error_eq {e e' : Engine} (h : e.Inv) (hE : e'.ERR = e.ERR ∧ e'.ERRCODE = e.ERRCODE)
    (hbusy : e'.BUSY = true ↔ e'.PEND ≠ none) (hpend : ∀ i, e'.PEND = some i → e'.pendingChecked i) : e'.Inv where
  busy_iff := hbusy
  code_clear := by simpa only [hE] using h.code_clear
  code_raised := by simpa only [hE] using h.code_raised
  pending := hpend

theorem Engine.reset_inv : Engine.reset.Inv where
  busy_iff := by simp [Engine.reset]
  code_clear _ := rfl
  code_raised h := nomatch h
  pending _ h := nomatch h

/-- R75: the recorded code is one of R73's, whether it is the new one or an earlier one that stays. -/
theorem Engine.Inv.raiseError {e : Engine} (h : e.Inv) (c : ErrorCode) : (e.raiseError c).Inv where
  busy_iff := by simpa using h.busy_iff
  code_clear := by simp
  code_raised _ := by
    rw [Engine.raiseError_ERRCODE]
    split
    · exact h.code_raised ‹_›
    · exact ⟨c, rfl⟩
  pending i hp := (Engine.pendingChecked_congr (by simp) (by simp) i).2 (h.pending i (by simpa using hp))

theorem Engine.Inv.clearError {e : Engine} (h : e.Inv) : e.clearError.Inv where
  busy_iff := h.busy_iff
  code_clear _ := rfl
  code_raised h := nomatch h
  pending i hp := (Engine.pendingChecked_congr rfl rfl i).2 (h.pending i hp)

theorem Engine.Inv.writeStatus {e : Engine} (h : e.Inv) (v : Word) : (e.writeStatus v).Inv := by
  unfold Engine.writeStatus
  split
  · exact h.clearError
  · exact h

/-- R95: the latches cannot change under a pending command, because writes to them are guarded. -/
theorem Engine.Inv.writeReg {e : Engine} (h : e.Inv) {r : Reg} (hb : regGuarded r = true → e.BUSY = false)
    (v : Word) : (e.writeReg r v).Inv := by
  by_cases hr : r = .status
  · subst hr
    exact h.writeStatus v
  · refine h.of_error_eq (Engine.writeReg_error_of_ne_status hr v e) (by simpa using h.busy_iff) fun i hp => ?_
    rw [Engine.writeReg_PEND] at hp
    cases hg : regGuarded r with
    | true => exact nomatch (h.pend_eq_none (hb hg)).symm.trans hp
    | false =>
      obtain ⟨hK, hN⟩ := Engine.writeReg_valid_of_unguarded hg v e
      exact (Engine.pendingChecked_congr hK hN i).2 (h.pending i hp)

theorem Engine.Inv.accept {e : Engine} (h : e.Inv) {i : Instr} (hi : i ≠ .nop) (hc : commandCheck i e = none) :
    (e.accept i).Inv := by
  refine h.of_error_eq ⟨rfl, rfl⟩ (by simp) fun j hj => ?_
  obtain rfl : i = j := by simpa using hj
  exact (Engine.pendingChecked_congr (e := e) rfl rfl i).2 (pendingChecked_of_commandCheck hi hc)

theorem Engine.Inv.complete {e : Engine} (h : e.Inv) (i : Instr) : (commandEffect i e).retire.Inv :=
  h.of_error_eq (by simp) (by simp) (by simp)

/-! ## What a step does to the engine -/

/-- The engines a step from `s` can leave, with the event that leaves each. -/
inductive EngineChange (s : State) : Engine → Prop where
  /-- R92: the pending command completes. -/
  | completes (i : Instr) (h : Due s i) : EngineChange s (commandEffect i s.engine).retire
  /-- R89: reset. -/
  | resets (rest : List HostOp) (h : Next s .reset rest) : EngineChange s Engine.reset
  /-- R34, R36: a register is written, a guarded one only while BUSY is 0. -/
  | stores (r : Reg) (v : Word) (rest : List HostOp) (h : Next s (.write (regOffset r) 4 v) rest)
      (hb : regGuarded r = true → s.engine.BUSY = false) : EngineChange s (s.engine.writeReg r v)
  /-- R53: a command is accepted. -/
  | accepts (i : Instr) (v : Word) (rest : List HostOp) (h : Next s (.write 0x74 4 v) rest)
      (hd : decode v = .ok i) (hi : i ≠ .nop) (hc : commandCheck i s.engine = none) :
      EngineChange s (s.engine.accept i)
  /-- R75: an error is recorded. -/
  | raises (c : ErrorCode) : EngineChange s (s.engine.raiseError c)
  /-- Reads, polls, NOP, ignored writes and quiet moments. -/
  | holds : EngineChange s s.engine

/-- Under the invariant no command is pending while BUSY is 0, so the inconsistent event of `StepEvent` is ruled out. -/
theorem step_engineChange {s t : State} (hinv : s.engine.Inv) (h : step s = .next t) : EngineChange s t.engine := by
  cases step_event h with
  | completes i hd => exact .completes i hd
  | quiet _ _ => exact .holds
  | reads _ _ _ _ => exact .holds
  | polls rest _ =>
    rw [pollStatus_engine]
    exact .holds
  | resets rest hn => exact .resets rest hn
  | ignores _ _ _ _ _ _ => exact .holds
  | stores r v rest hn _ hb =>
    exact .stores r v rest hn fun hg => hb.resolve_right (by simp [hg])
  | raises _ _ _ c _ _ => exact .raises c
  | nops _ _ _ _ _ => exact .holds
  | accepts i v rest hn _ hd hi hc => exact .accepts i v rest hn hd hi hc
  | inconsistent i _ _ _ hb hp => exact nomatch (hinv.pend_eq_none hb).symm.trans hp

/-! ## The statements -/

theorem EngineChange.keeps_inv {s : State} {e : Engine} (h : EngineChange s e) (hinv : s.engine.Inv) : e.Inv := by
  cases h with
  | completes i _ => exact hinv.complete i
  | resets _ _ => exact Engine.reset_inv
  | stores r v _ _ hb => exact hinv.writeReg hb v
  | accepts i _ _ _ _ hi hc => exact hinv.accept hi hc
  | raises c => exact hinv.raiseError c
  | holds => exact hinv

/-- Settles O35: each kind of engine change keeps the invariant. -/
theorem stepKeepsTheInvariant : Obligations.StepKeepsTheInvariant :=
  fun _ _ hinv h => (step_engineChange hinv h).keeps_inv hinv

/-- Settles O34: every reset value of R89 meets the invariant. -/
theorem invariantHoldsAtReset : Obligations.InvariantHoldsAtReset := Engine.reset_inv

/-- R21, first transition: of the engine changes only an acceptance sets BUSY. -/
theorem EngineChange.busy_set {s : State} {e : Engine} (h : EngineChange s e) (hs : s.engine.BUSY = false)
    (he : e.BUSY = true) :
    ∃ v rest i, Next s (.write 0x74 4 v) rest ∧ decode v = .ok i ∧ e.PEND = some i := by
  cases h with
  | accepts i v rest hn hd _ _ => exact ⟨v, rest, i, hn, hd, rfl⟩
  | completes _ _ | resets _ _ => exact nomatch he
  | stores _ _ _ _ _ | raises _ | holds => simp [hs] at he

/-- R21, second transition: of the engine changes only a completion and reset clear BUSY. -/
theorem EngineChange.busy_cleared {s : State} {e : Engine} (h : EngineChange s e) (hs : s.engine.BUSY = true)
    (he : e.BUSY = false) : (∃ i, Due s i) ∨ ∃ rest, Next s .reset rest := by
  cases h with
  | completes i hd => exact .inl ⟨i, hd⟩
  | resets rest hn => exact .inr ⟨rest, hn⟩
  | accepts _ _ _ _ _ _ _ => exact nomatch he
  | stores _ _ _ _ _ | raises _ | holds => simp [hs] at he

/-- Settles O36: both transitions of R21, read off the engine change of the step. -/
theorem busyChangesByAcceptanceAndCompletion : Obligations.BusyChangesByAcceptanceAndCompletion :=
  fun _ _ hinv h =>
    have hc := step_engineChange hinv h
    ⟨hc.busy_set, hc.busy_cleared⟩

/-- Settles O38: of the engine changes, a completion, reset and a write to a guarded STATE word can change S. -/
theorem stateWordsChangeOnlyAsListed : Obligations.StateWordsChangeOnlyAsListed := by
  intro s t hinv h hS
  have hc := step_engineChange hinv h
  generalize t.engine = e at hc hS ⊢
  cases hc with
  | completes i hd => exact .inr (.inl ⟨i, hd, commandEffect_S_changes hS⟩)
  | resets rest hn => exact .inr (.inr ⟨rest, hn⟩)
  | stores r v rest hn hb =>
    obtain ⟨i, rfl⟩ := Engine.writeReg_S_changes hS
    exact .inl ⟨i, _, v, rest, regOffset_state_toNat i, hn, hb rfl, rfl⟩
  | accepts _ _ _ _ _ _ _ | raises _ | holds => simp at hS

/-- Settles O39: a store changes the latch of the register it names and no other; no effect but that of CLRIN touches a
latch. -/
theorem latchesChangeOnlyAsListed : Obligations.LatchesChangeOnlyAsListed := by
  intro s t hinv h
  have hc := step_engineChange hinv h
  generalize t.engine = e at hc ⊢
  cases hc with
  | completes i hd =>
    by_cases hi : i = .clrin
    · exact .inr (.inl (hi ▸ hd))
    · exact .inr (.inr (by simp [commandEffect_latches hi]))
  | resets rest hn => exact .inl ⟨rest, hn⟩
  | stores r v rest hn hb =>
    refine .inr (.inr ⟨fun hK => ?_, fun hN => ?_, fun hC => ?_⟩)
    · obtain ⟨j, rfl⟩ := Engine.writeReg_key_changes hK
      exact ⟨j, _, v, rest, regOffset_key_toNat j, hn, hb rfl, rfl⟩
    · obtain ⟨j, rfl⟩ := Engine.writeReg_nonce_changes hN
      exact ⟨j, _, v, rest, regOffset_nonce_toNat j, hn, hb rfl, rfl⟩
    · obtain rfl := Engine.writeReg_CTR_changes hC
      exact ⟨v, rest, hn, hb rfl, rfl⟩
  | accepts _ _ _ _ _ _ _ | raises _ | holds => exact .inr (.inr (by simp))

/-- Settles O40: of the engine changes only the completion of BLOCK and reset change O. -/
theorem snapshotIsWrittenByBlockOnly : Obligations.SnapshotIsWrittenByBlockOnly := by
  intro s t hinv h hO
  have hc := step_engineChange hinv h
  generalize t.engine = e at hc hO ⊢
  cases hc with
  | completes i hd =>
    obtain rfl := commandEffect_O_changes hO
    exact .inl ⟨hd, by simp [commandEffect]⟩
  | resets rest hn => exact .inr ⟨rest, hn⟩
  | stores _ _ _ _ _ | accepts _ _ _ _ _ _ _ | raises _ | holds => simp at hO

end Sys2Proof.Machine
end

section
/-! PROOFS of the family 20_memory.md: the registers behind the offsets the statements speak of, one rule for each way an
aligned read or write can go, and from them the statements on the window, on refused accesses, on a pending command, and
on the host's packing. -/

namespace Sys2Proof.Machine

/-! ## Offsets -/

theorem regOffset_aligned (r : Reg) : (regOffset r).toNat % 4 = 0 := by
  cases r with
  | state i | key i | nonce i | const i | orig i => revert i; decide
  | counter | latchv | cmd | status => rfl

theorem regOffset_const_toNat (i : Fin 4) : (regOffset (.const i)).toNat = 0x80 + 4 * i := by
  revert i; decide

theorem regOffset_orig_toNat (i : Slot) : (regOffset (.orig i)).toNat = 0xC0 + 4 * i := by
  revert i; decide

theorem eq_regOffset_state {off : Offset} {i : Slot} (h : off.toNat = 4 * i) : off = regOffset (.state i) :=
  BitVec.eq_of_toNat_eq (h.trans (regOffset_state_toNat i).symm)

theorem eq_regOffset_key {off : Offset} {j : Fin 8} (h : off.toNat = 0x40 + 4 * j) : off = regOffset (.key j) :=
  BitVec.eq_of_toNat_eq (h.trans (regOffset_key_toNat j).symm)

theorem eq_regOffset_nonce {off : Offset} {j : Fin 3} (h : off.toNat = 0x64 + 4 * j) : off = regOffset (.nonce j) :=
  BitVec.eq_of_toNat_eq (h.trans (regOffset_nonce_toNat j).symm)

theorem eq_regOffset_const {off : Offset} {i : Fin 4} (h : off.toNat = 0x80 + 4 * i) : off = regOffset (.const i) :=
  BitVec.eq_of_toNat_eq (h.trans (regOffset_const_toNat i).symm)

theorem eq_regOffset_orig {off : Offset} {i : Slot} (h : off.toNat = 0xC0 + 4 * i) : off = regOffset (.orig i) :=
  BitVec.eq_of_toNat_eq (h.trans (regOffset_orig_toNat i).symm)

/-- R35: the registers that ignore writes. -/
def regReadOnly : Reg → Bool
  | .state _ | .key _ | .counter | .nonce _ | .cmd | .status => false
  | .latchv | .const _ | .orig _ => true

/-- R35: the offsets that ignore writes: LATCHV, CONST, ORIG and the reserved ones. -/
abbrev InertOffset (off : Offset) : Prop :=
  off = 0x70 ∨ (0x80 ≤ off.toNat ∧ off.toNat ≤ 0x8C ∧ off.toNat % 4 = 0) ∨
    (0xC0 ≤ off.toNat ∧ off.toNat % 4 = 0) ∨ ReservedOffset off

theorem ownedOffset_iff : ∀ off : Offset,
    OwnedOffset off ↔ off.toNat % 4 = 0 ∧ (regAt off).any regOwned = true := by
  decide

theorem guardedOffset_iff : ∀ off : Offset,
    GuardedOffset off ↔ off.toNat % 4 = 0 ∧ (regAt off).any regGuarded = true := by
  decide

theorem reservedOffset_iff : ∀ off : Offset, ReservedOffset off ↔ off.toNat % 4 = 0 ∧ regAt off = none := by
  decide

theorem inertOffset_iff : ∀ off : Offset,
    InertOffset off ↔ off.toNat % 4 = 0 ∧ (regAt off).all regReadOnly = true := by
  decide

/-! ## Reads -/

/-- R37: a read of an OWNED offset while BUSY is 1 is a draw. -/
theorem readIsDraw_of_owned {off : Offset} {e : Engine} (hb : e.BUSY = true) (ho : OwnedOffset off) :
    readIsDraw off e = true := by
  simp [readIsDraw, hb, ((ownedOffset_iff off).1 ho).2]

theorem readIsDraw_regOffset {r : Reg} {e : Engine} (hb : e.BUSY = false ∨ regOwned r = false) :
    readIsDraw (regOffset r) e = false := by
  rw [readIsDraw, regAt_regOffset]
  exact Bool.and_eq_false_iff.2 hb

theorem readIsDraw_of_reserved {off : Offset} (e : Engine) (hr : ReservedOffset off) : readIsDraw off e = false := by
  simp [readIsDraw, ((reservedOffset_iff off).1 hr).2]

/-- R33: the value of a read that is no draw. -/
theorem regReadValue_regOffset {r : Reg} {s : State} (hb : s.engine.BUSY = false ∨ regOwned r = false) :
    regReadValue (regOffset r) s = s.engine.readReg r := by
  simp [regReadValue, readIsDraw_regOffset hb, regAt_regOffset]

theorem regRead_of_owned {off : Offset} {s : State} (hb : s.engine.BUSY = true) (ho : OwnedOffset off) :
    regRead off s = { s with returned := Config.busyRead s.draws :: s.returned, draws := s.draws + 1 } := by
  simp [regRead, regReadValue, readIsDraw_of_owned hb ho]

theorem regRead_regOffset {r : Reg} {s : State} (hb : s.engine.BUSY = false ∨ regOwned r = false) :
    regRead (regOffset r) s = { s with returned := s.engine.readReg r :: s.returned } := by
  simp [regRead, regReadValue_regOffset hb, readIsDraw_regOffset hb]

theorem regRead_of_reserved {off : Offset} (s : State) (hr : ReservedOffset off) :
    regRead off s = { s with returned := 0 :: s.returned } := by
  simp [regRead, regReadValue, readIsDraw_of_reserved _ hr, ((reservedOffset_iff off).1 hr).2]

theorem step_read_owned {s : State} {off : Offset} {rest : List HostOp} (h : Next s (.read off 4) rest)
    (hb : s.engine.BUSY = true) (ho : OwnedOffset off) :
    step s = .next { s.popped rest with
      returned := Config.busyRead s.draws :: s.returned, draws := s.draws + 1 } := by
  rw [step_read h ho.1, regRead_of_owned (s := s.popped rest) hb ho]
  rfl

theorem step_read_reg {s : State} {off : Offset} {rest : List HostOp} (h : Next s (.read off 4) rest) {r : Reg}
    (hr : off = regOffset r) (hb : s.engine.BUSY = false ∨ regOwned r = false) :
    step s = .next { s.popped rest with returned := s.engine.readReg r :: s.returned } := by
  subst hr
  rw [step_read h (regOffset_aligned r), regRead_regOffset (s := s.popped rest) hb]
  rfl

theorem step_read_reserved {s : State} {off : Offset} {rest : List HostOp} (h : Next s (.read off 4) rest)
    (hr : ReservedOffset off) : step s = .next { s.popped rest with returned := 0 :: s.returned } := by
  rw [step_read h hr.1, regRead_of_reserved _ hr]
  rfl

/-- R19: LATCHV as a number. -/
theorem latchvWord_eq_ofNat (e : Engine) : latchvWord e = BitVec.ofNat 32 (e.NV.toNat * 256 + e.KV.toNat) := by
  have happ : (e.NV ++ e.KV).toNat = e.NV.toNat * 256 + e.KV.toNat := by
    rw [BitVec.toNat_append, ← Nat.shiftLeft_add_eq_or_of_lt e.KV.isLt, Nat.shiftLeft_eq]
  rw [latchvWord, ← BitVec.ofNat_toNat, happ]

/-- R15: CONST[i] reads the constant table. -/
theorem readReg_const (i : Fin 4) (e : Engine) :
    e.readReg (.const i) = [0x61707865, 0x3320646e, 0x79622d32, 0x6b206574].getD i 0 := by
  change Config.const[i] = _
  revert i; decide

/-- Settles O20: each offset of the map is that of a register, which `step_read_reg` reads, or a reserved one. -/
theorem regReadFollowsTheMap : Obligations.RegReadFollowsTheMap := by
  intro s off rest h
  refine ⟨step_read_owned h, fun hb => ⟨fun i hi => ?_, fun j hj => ?_, fun hc => ?_, fun j hj => ?_, fun hl => ?_,
    fun i hi => ?_⟩, fun hc => ?_, fun hs => ?_, fun i hi => ?_, step_read_reserved h⟩
  · exact step_read_reg h (eq_regOffset_state hi) (.inl hb)
  · exact step_read_reg h (eq_regOffset_key hj) (.inl hb)
  · exact step_read_reg h (r := .counter) hc (.inl hb)
  · exact step_read_reg h (eq_regOffset_nonce hj) (.inl hb)
  · rw [← latchvWord_eq_ofNat]
    exact step_read_reg h (r := .latchv) hl (.inl hb)
  · exact step_read_reg h (eq_regOffset_orig hi) (.inl hb)
  · exact step_read_reg h (r := .cmd) hc (.inr rfl)
  · rw [← statusWord_eq_ofNat]
    exact step_read_reg h (r := .status) hs (.inr rfl)
  · rw [← readReg_const i s.engine]
    exact step_read_reg h (eq_regOffset_const hi) (.inr rfl)

/-- Settles O24: the second read finds the engine still busy, the completion one step nearer and the draw counter up by
one. -/
theorem busyReadsAreFreshDraws : Obligations.BusyReadsAreFreshDraws := by
  intro s off off' rest h hb ho ho' hlat
  have hfirst := step_read_owned h hb ho
  have hnext : Next { s.popped (.read off' 4 :: rest) with
      returned := Config.busyRead s.draws :: s.returned, draws := s.draws + 1 } (.read off' 4) rest :=
    ⟨fun hz => absurd hz (show s.latLeft - 1 ≠ 0 by omega), rfl⟩
  rw [run_succ hfirst, run_succ (step_read_owned hnext hb ho')]
  rfl

/-! ## Writes -/

theorem regWrite_regOffset (r : Reg) (v : Word) (s : State) : regWrite (regOffset r) v s = writeRegister r v s := by
  simp [regWrite, regAt_regOffset]

/-- R36: a write to a GUARDED register while BUSY is 1 records BUSY_WRITE and is dropped. -/
theorem regWrite_drops {r : Reg} {s : State} (v : Word) (hb : s.engine.BUSY = true) (hg : regGuarded r = true) :
    regWrite (regOffset r) v s = .next (s.raiseError .busyWrite) := by
  simp [regWrite_regOffset, writeRegister, hb, hg]

theorem regWrite_of_guarded {off : Offset} {s : State} (v : Word) (hb : s.engine.BUSY = true)
    (hg : GuardedOffset off) : regWrite off v s = .next (s.raiseError .busyWrite) := by
  obtain ⟨r, hr, hguard⟩ := (Option.any_eq_true _ _).1 ((guardedOffset_iff off).1 hg).2
  rw [← regOffset_of_regAt off hg.1 r hr, regWrite_drops v hb hguard]

/-- R34: a write to a register other than CMD that is not dropped is stored. -/
theorem regWrite_stores {r : Reg} {s : State} (v : Word) (hc : r ≠ .cmd)
    (hb : s.engine.BUSY = false ∨ regGuarded r = false) :
    regWrite (regOffset r) v s = .next { s with engine := s.engine.writeReg r v } := by
  have hnot : (s.engine.BUSY && regGuarded r) = false := Bool.and_eq_false_iff.2 hb
  simp [regWrite_regOffset, writeRegister, hnot, hc]

/-- R53: a write to CMD while BUSY is 0 issues the word. -/
theorem regWrite_cmd {s : State} (v : Word) (hb : s.engine.BUSY = false) : regWrite 0x74 v s = issue v s := by
  change regWrite (regOffset .cmd) v s = _
  simp [regWrite_regOffset, writeRegister, hb]

theorem regGuarded_of_readOnly {r : Reg} (hr : regReadOnly r = true) : regGuarded r = false ∧ r ≠ .cmd := by
  cases r <;> simp_all [regReadOnly, regGuarded]

theorem Engine.writeReg_of_readOnly {r : Reg} (hr : regReadOnly r = true) (v : Word) (e : Engine) :
    e.writeReg r v = e := by
  cases r with
  | latchv | const _ | orig _ => rfl
  | state _ | key _ | counter | nonce _ | cmd | status => exact nomatch hr

/-- R35: a write to a read-only or reserved offset is ignored. -/
theorem regWrite_of_inert {off : Offset} (v : Word) (s : State) (hi : InertOffset off) : regWrite off v s = .next s := by
  obtain ⟨hal, hall⟩ := (inertOffset_iff off).1 hi
  cases hr : regAt off with
  | none => simp [regWrite, hr]
  | some r =>
    have hro : regReadOnly r = true := by simpa [hr] using hall
    obtain ⟨hg, hc⟩ := regGuarded_of_readOnly hro
    rw [← regOffset_of_regAt off hal r hr, regWrite_stores v hc (.inr hg), Engine.writeReg_of_readOnly hro]

theorem step_write_guarded {s : State} {off : Offset} {v : Word} {rest : List HostOp}
    (h : Next s (.write off 4 v) rest) (hb : s.engine.BUSY = true) (hg : GuardedOffset off) :
    step s = .next ((s.popped rest).raiseError .busyWrite) := by
  rw [step_write h hg.1, regWrite_of_guarded (s := s.popped rest) v hb hg]

theorem step_write_reg {s : State} {off : Offset} {v : Word} {rest : List HostOp} (h : Next s (.write off 4 v) rest)
    {r : Reg} (hr : off = regOffset r) (hc : r ≠ .cmd) (hb : s.engine.BUSY = false ∨ regGuarded r = false) :
    step s = .next { s.popped rest with engine := s.engine.writeReg r v } := by
  subst hr
  rw [step_write h (regOffset_aligned r), regWrite_stores (s := s.popped rest) v hc hb]
  rfl

theorem step_write_cmd {s : State} {v : Word} {rest : List HostOp} (h : Next s (.write 0x74 4 v) rest)
    (hb : s.engine.BUSY = false) : step s = issue v (s.popped rest) := by
  rw [step_write h rfl, regWrite_cmd (s := s.popped rest) v hb]

theorem step_write_inert {s : State} {off : Offset} {v : Word} {rest : List HostOp}
    (h : Next s (.write off 4 v) rest) (hi : InertOffset off) : step s = .next (s.popped rest) := by
  rw [step_write h ((inertOffset_iff off).1 hi).1, regWrite_of_inert v _ hi]

/-- R16, R17: the valid bits after a write to slot `j`. -/
theorem getLsbD_or_one_shiftLeft {w : Nat} (x : BitVec w) (j k : Fin w) :
    (x ||| 1#w <<< j.val).getLsbD k = (k = j || x.getLsbD k) := by
  rw [← BitVec.twoPow_eq, BitVec.getLsbD_or, BitVec.getLsbD_twoPow, Bool.or_comm]
  simp [j.isLt, Fin.ext_iff, eq_comm]

/-- Settles O21: each offset of the map is that of a register, which `step_write_reg` stores to, or one of the others. -/
theorem regWriteFollowsTheMap : Obligations.RegWriteFollowsTheMap := by
  intro s off v rest h
  refine ⟨step_write_guarded h, fun hb => ⟨fun i hi => ?_, fun j hj => ?_, fun hc => ?_, fun j hj => ?_, fun hc => ?_⟩,
    fun hs => ?_, step_write_inert h⟩
  · exact step_write_reg h (eq_regOffset_state hi) (by simp) (.inl hb)
  · exact ⟨_, getLsbD_or_one_shiftLeft s.engine.KV j,
      step_write_reg h (eq_regOffset_key hj) (by simp) (.inl hb)⟩
  · exact step_write_reg h (r := .counter) hc (by simp) (.inl hb)
  · exact ⟨_, getLsbD_or_one_shiftLeft s.engine.NV j,
      step_write_reg h (eq_regOffset_nonce hj) (by simp) (.inl hb)⟩
  · subst hc
    exact step_write_cmd h hb
  · exact step_write_reg h (r := .status) hs (by simp) (.inr rfl)

/-- R35: the reserved bits of STATUS. -/
theorem statusWord_reserved_bits (e : Engine) {k : Nat} (hk : k = 2 ∨ k = 3 ∨ 8 ≤ k) :
    (statusWord e).getLsbD k = false := by
  rw [statusWord, BitVec.getLsbD_setWidth, Bool.and_eq_false_iff]
  right
  rcases hk with rfl | rfl | hk
  · simp only [BitVec.getLsbD_append]
    rfl
  · simp only [BitVec.getLsbD_append]
    rfl
  · exact BitVec.getLsbD_of_ge _ _ hk

/-- R35: the reserved bits of LATCHV. -/
theorem latchvWord_reserved_bits (e : Engine) {k : Nat} (hk : 11 ≤ k) : (latchvWord e).getLsbD k = false := by
  rw [latchvWord, BitVec.getLsbD_setWidth, BitVec.getLsbD_of_ge _ _ hk, Bool.and_false]

/-- R21: a write to STATUS acts by bit 1 alone. -/
theorem Engine.writeStatus_congr {v w : Word} (h : v.getLsbD 1 = w.getLsbD 1) (e : Engine) :
    e.writeStatus v = e.writeStatus w := by
  rw [Engine.writeStatus, show clearsError v = clearsError w from h]
  rfl

/-- Settles O22: the rules for inert writes and reserved reads, and the bits of the STATUS and LATCHV words. -/
theorem reservedAndReadOnlyIgnoreWrites : Obligations.ReservedAndReadOnlyIgnoreWrites := by
  refine ⟨fun s off v rest h hi => step_write_inert h hi, fun s off rest h hoff => ?_, fun s k hk => ?_,
    fun s k hb hk => ?_, fun s v w hbit => ?_⟩
  · rcases hoff with hc | hr
    · exact step_read_reg h (r := .cmd) hc (.inr rfl)
    · exact step_read_reserved h hr
  · rw [regReadValue_status]
    exact statusWord_reserved_bits s.engine hk
  · have hval : regReadValue 0x70 s = latchvWord s.engine := regReadValue_regOffset (r := .latchv) (.inl hb)
    rw [hval]
    exact latchvWord_reserved_bits s.engine hk
  · have hstore (u : Word) : regWrite 0x78 u s = .next { s with engine := s.engine.writeStatus u } :=
      regWrite_stores (r := .status) u (by simp) (.inr rfl)
    rw [hstore, hstore, Engine.writeStatus_congr hbit]

theorem Engine.raiseError_of_clear {e : Engine} (c : ErrorCode) (h : e.ERR = false) :
    e.raiseError c = { e with ERR := true, ERRCODE := errorCodeBits c } := by
  simp [Engine.raiseError, h]

theorem Engine.raiseError_of_set {e : Engine} (c : ErrorCode) (h : e.ERR = true) : e.raiseError c = e := by
  simp [Engine.raiseError, h]

/-- Settles O23: a dropped write raises BUSY_WRITE, which is recorded only while ERR is 0; STATUS is not guarded. -/
theorem busyWritesAreDropped : Obligations.BusyWritesAreDropped := by
  intro s off v rest h hb
  refine ⟨fun hg he => ?_, fun hg he => ?_, fun hs => ?_⟩
  · rw [step_write_guarded h hb hg, State.raiseError, State.popped_engine, Engine.raiseError_of_clear _ he]
    rfl
  · rw [step_write_guarded h hb hg, State.raiseError, State.popped_engine, Engine.raiseError_of_set _ he]
    rfl
  · exact step_write_reg h (r := .status) hs (by simp) (.inr rfl)

/-- R75: an error raised again is the one that stands. -/
theorem State.raiseError_idem (c : ErrorCode) (s : State) : (s.raiseError c).raiseError c = s.raiseError c := by
  simp [State.raiseError, Engine.raiseError_of_set]

theorem Engine.writeStatus_idem (v : Word) (e : Engine) : (e.writeStatus v).writeStatus v = e.writeStatus v := by
  unfold Engine.writeStatus
  split <;> rfl

theorem Engine.writeReg_idem (r : Reg) (v : Word) (e : Engine) : (e.writeReg r v).writeReg r v = e.writeReg r v := by
  cases r with
  | state i => simp [Engine.writeReg, Engine.writeS, Engine.setS]
  | key j => simp [Engine.writeReg, Engine.latchKey, BitVec.or_assoc]
  | nonce j => simp [Engine.writeReg, Engine.latchNonce, BitVec.or_assoc]
  | status => exact Engine.writeStatus_idem v e
  | counter | latchv | cmd | const _ | orig _ => rfl

/-- Settles O27: the second write goes the way of the first, since no write but to CMD touches BUSY, and recording an
error and storing a value are both idempotent. -/
theorem repeatedWritesAreIdempotent : Obligations.RepeatedWritesAreIdempotent := by
  intro s t off v hal hcmd h
  obtain ⟨_, ht⟩ | ⟨r, rfl, ⟨hb, hg, ht⟩ | ⟨_, rfl, _⟩ | ⟨hb, hc, ht⟩⟩ := regWrite_cases hal h
  · cases ht
    exact h
  · cases ht
    rw [regWrite_drops v (by simpa using hb) hg, State.raiseError_idem]
  · exact absurd rfl hcmd
  · cases ht
    rw [regWrite_stores v hc (by simpa using hb), Engine.writeReg_idem]

/-! ## Refused accesses -/

theorem exec_answers_next (i : Instr) (s : State) : ∃ t, exec i s = .next t := by
  obtain ⟨_, h⟩ | ⟨_, _, h⟩ | ⟨_, _, _, h⟩ | ⟨_, _, _, c, _, h⟩ | ⟨_, _, _, _, h⟩ := exec_cases (i := i) (s := s) rfl
  all_goals exact ⟨_, h⟩

theorem issue_answers_next (v : Word) (s : State) : ∃ t, issue v s = .next t := by
  obtain ⟨_, h⟩ | ⟨i, _, h⟩ := issue_cases (v := v) (s := s) rfl
  · exact ⟨_, h⟩
  · exact h ▸ exec_answers_next i s

/-- R34: an aligned write is always performed. -/
theorem regWrite_answers_next {off : Offset} (hal : off.toNat % 4 = 0) (v : Word) (s : State) :
    ∃ t, regWrite off v s = .next t := by
  obtain ⟨_, h⟩ | ⟨r, _, ⟨_, _, h⟩ | ⟨_, _, h⟩ | ⟨_, _, h⟩⟩ := regWrite_cases (v := v) (s := s) hal rfl
  · exact ⟨_, h⟩
  · exact ⟨_, h⟩
  · exact h ▸ issue_answers_next v s
  · exact ⟨_, h⟩

/-- R32: what makes an access a refused one. -/
theorem accepted_of_not_refused {off : Offset} {bytes : Nat}
    (h : ¬ (bytes ≠ 4 ∨ off.toNat % 4 ≠ 0 ∨ 256 < off.toNat + bytes)) : bytes = 4 ∧ off.toNat % 4 = 0 :=
  (accepted_iff off bytes).1 (Bool.eq_false_iff.2 fun hr => h ((accessRefused_iff off bytes).1 hr))

/-- Settles O25: a refused access is the fault of `perform`; any other is an aligned word, which is read or written. -/
theorem refusedAccessesAreBusErrors : Obligations.RefusedAccessesAreBusErrors := by
  intro s off bytes v rest
  refine ⟨fun h => ⟨fun hr => ?_, fun hr => ?_⟩, fun h => ⟨fun hr => ?_, fun hr => ?_⟩⟩
  · rw [step_next h, perform, (accessRefused_iff off bytes).2 hr]
    rfl
  · obtain ⟨rfl, hal⟩ := accepted_of_not_refused hr
    exact ⟨_, step_read h hal⟩
  · rw [step_next h, perform, (accessRefused_iff off bytes).2 hr]
    rfl
  · obtain ⟨rfl, hal⟩ := accepted_of_not_refused hr
    rw [step_write h hal]
    exact regWrite_answers_next hal v _

/-! ## Bus addresses -/

/-- R28: an address of the window is that of one offset. -/
theorem exists_offset_of_mem_window {addr : Nat} (hlo : Config.base ≤ addr) (hhi : addr < Config.base + 256) :
    ∃ off : Offset, addr = Config.base + off.toNat :=
  ⟨BitVec.ofNat 8 (addr - Config.base), by simp only [BitVec.toNat_ofNat]; omega⟩

theorem windowOffset_eq_none_iff {addr : Nat} :
    windowOffset addr = none ↔ addr < Config.base ∨ Config.base + 256 ≤ addr := by
  refine ⟨fun h => ?_, windowOffset_eq_none⟩
  by_contra hin
  obtain ⟨off, rfl⟩ := exists_offset_of_mem_window (addr := addr) (by omega) (by omega)
  exact nomatch h.symm.trans (windowOffset_add off)

theorem busAddress_of_windowOffset {addr : Nat} {off : Offset} (h : windowOffset addr = some off) :
    busAddress off = addr := by
  by_cases hin : Config.base ≤ addr ∧ addr < Config.base + 256
  · obtain ⟨off', rfl⟩ := exists_offset_of_mem_window hin.1 hin.2
    obtain rfl : off' = off := Option.some.inj ((windowOffset_add off').symm.trans h)
    rfl
  · exact nomatch h.symm.trans (windowOffset_eq_none (by omega))

/-- Settles O26: an address is BASE plus an offset exactly inside the window. -/
theorem windowHoldsItsBusAddresses : Obligations.WindowHoldsItsBusAddresses := by
  refine ⟨⟨Config.basePage, rfl⟩, windowOffset_add, fun _ _ => busAddress_of_windowOffset,
    fun _ => windowOffset_eq_none_iff, fun addr bytes v hlo hhi => ?_, fun addr bytes v hout => ?_⟩
  · obtain ⟨off, rfl⟩ := exists_offset_of_mem_window hlo hhi
    exact ⟨off, rfl, by rw [busReadOp, windowOffset_add]; rfl, by rw [busWriteOp, windowOffset_add]; rfl⟩
  · have hnone := windowOffset_eq_none hout
    exact ⟨by rw [busReadOp, hnone]; rfl, by rw [busWriteOp, hnone]; rfl⟩

/-! ## The host's packing -/

/-- R41: appending a byte below a string shifts the string up by 8. -/
theorem setWidth_append_byte {w : Nat} (x : BitVec w) (b : Byte) :
    (x ++ b).setWidth 32 = b.setWidth 32 ||| x.setWidth 32 <<< 8 := by
  refine BitVec.eq_of_getLsbD_eq fun k hk => ?_
  simp only [BitVec.getLsbD_setWidth, BitVec.getLsbD_append, BitVec.getLsbD_or, BitVec.getLsbD_shiftLeft]
  by_cases h8 : k < 8
  · simp [h8]
  · simp [h8, hk, BitVec.getLsbD_of_ge b k (by omega), show k - 8 < 32 by omega]

/-- R41: the bytes of a packed word stand at bits 0, 8, 16 and 24. -/
theorem packWord_eq_or (b0 b1 b2 b3 : Byte) :
    packWord b0 b1 b2 b3 = b0.setWidth 32 ||| (b1.setWidth 32 <<< 8) ||| (b2.setWidth 32 <<< 16) |||
      (b3.setWidth 32 <<< 24) := by
  calc packWord b0 b1 b2 b3
      = (b3 ++ b2 ++ b1 ++ b0).setWidth 32 := (BitVec.setWidth_eq _).symm
    _ = b0.setWidth 32 ||| (b1.setWidth 32 ||| (b2.setWidth 32 ||| b3.setWidth 32 <<< 8) <<< 8) <<< 8 := by
      simp only [setWidth_append_byte]
    _ = _ := by simp only [BitVec.shiftLeft_or_distrib, ← BitVec.shiftLeft_add, BitVec.or_assoc, Nat.reduceAdd]

/-- R42: byte `b` of word `i` stands at index `4 * i + b` of the keystream. -/
theorem keystreamBytes_get (S : Block) (i : Slot) (b : Fin 4) :
    (keystreamBytes S)[4 * i.val + b.val] = wordByte S[i] b := by
  have hdiv : (4 * i.val + b.val) / 4 = i := by omega
  have hmod : (4 * i.val + b.val) % 4 = b := by omega
  simp [keystreamBytes, hdiv, hmod]

/-- Settles O28: the word of four bytes as an or of shifts, and the bytes of a word as its slices. -/
theorem hostPackingIsLittleEndian : Obligations.HostPackingIsLittleEndian := by
  refine ⟨fun k j => ?_, fun n j => ?_, fun S i b m => ?_⟩
  · simp [packKey, packWord_eq_or]
  · simp [packNonce, packWord_eq_or]
  · rw [keystreamBytes_get, wordByte, BitVec.getLsbD_extractLsb']
    simp

/-! ## A pending command -/

theorem Engine.writeReg_sameButError_of_unguarded {r : Reg} (hr : regGuarded r = false) (v : Word) (e : Engine) :
    SameButError e (e.writeReg r v) := by
  cases r with
  | status => exact .writeStatus v e
  | latchv | const _ | orig _ => exact .refl e
  | state _ | key _ | counter | nonce _ | cmd => exact nomatch hr

theorem Engine.Inv.busy_of_pending {e : Engine} {i : Instr} (h : e.Inv) (hp : e.PEND = some i) : e.BUSY = true :=
  h.busy_iff.2 (by simp [hp])

/-- Settles O37: BUSY is 1 while a command is pending, so of the events of a step only a store to an unguarded register
and a recorded error touch the engine, and they touch ERR and ERRCODE alone. -/
theorem pendingCommandIsUndisturbed : Obligations.PendingCommandIsUndisturbed := by
  intro s t i hinv hp hlat hreset h
  have hb := hinv.busy_of_pending hp
  cases step_event h with
  | completes _ hd => exact absurd hd.latency (by omega)
  | resets rest hn => exact absurd hn.inputs (hreset rest)
  | quiet _ _ | reads _ _ _ _ | ignores _ _ _ _ _ _ => exact ⟨.refl _, rfl⟩
  | polls rest _ => simpa using SameButError.refl s.engine
  | stores r v _ _ _ hguard =>
    exact ⟨Engine.writeReg_sameButError_of_unguarded (hguard.resolve_left (by simp [hb])) v _, rfl⟩
  | raises _ _ _ c _ _ => exact ⟨.raiseError c _, rfl⟩
  | nops _ _ _ hidle _ | accepts _ _ _ _ hidle _ _ _ | inconsistent _ _ _ _ hidle _ =>
    exact nomatch hb.symm.trans hidle

/-! ## The command a step runs -/

theorem issue_of_decode {v : Word} {i : Instr} (h : decode v = .ok i) (s : State) : issue v s = exec i s := by
  simp [issue, h]

/-- R34, R53: a command word written to CMD of an idle engine is run by the step. -/
theorem step_runs_written_command {s : State} {v : Word} {rest : List HostOp} {i : Instr} (hidle : s.engine.idle)
    (hin : s.inputs = .write 0x74 4 v :: rest) (hd : decode v = .ok i) : step s = exec i (s.popped rest) := by
  obtain ⟨hpend, hbusy⟩ := hidle
  rw [step_write_cmd ⟨fun _ => hpend, hin⟩ hbusy, issue_of_decode hd]

theorem decode_of_decodeTableWord {nbits w : Nat} {i : Instr} (h : decodeTableWord nbits w = some i) :
    decode (BitVec.ofNat 32 (w % 2 ^ nbits)) = .ok i := by
  unfold decodeTableWord at h
  split at h
  · simp_all
  · exact nomatch h

/-- Settles O6: `withFetchWord` leaves an idle engine with the write of the word at the head of the queue, so its clause
follows from the first one. -/
theorem stepRunsTheDecodedCommand : Obligations.StepRunsTheDecodedCommand :=
  ⟨fun _ _ _ _ hidle hin hd => step_runs_written_command hidle hin hd, fun _ _ => step_due,
    fun _ _ _ _ h => step_runs_written_command ⟨rfl, rfl⟩ rfl (decode_of_decodeTableWord h)⟩

end Sys2Proof.Machine
end

section
/-! PROOFS of the family 30_encoding.md: the fields of a command word put together again, so that the legal words are
the words of the commands, and from it the statements on the decoder, on issue, and on the poll of `wait`. -/

namespace Sys2Proof.Machine

/-! ## A word and its fields -/

/-- R48: the fields of a word, put together, are the word. -/
theorem word_eq_append_fields (v : Word) : v = rsv1Field v ++ indexField v ++ rsv0Field v ++ opField v := by
  simp only [rsv1Field, indexField, rsv0Field, opField]
  rw [BitVec.extractLsb'_append_extractLsb'_eq_extractLsb' (by omega),
    BitVec.extractLsb'_append_extractLsb'_eq_extractLsb' (by omega),
    BitVec.extractLsb'_append_extractLsb'_eq_extractLsb' (by omega)]
  exact BitVec.extractLsb'_eq_self.symm

/-- R48, R50: the same with bits 23:8 cut into the four slots, and RSV0 and OP together. -/
theorem word_eq_append_slots (v : Word) :
    v = rsv1Field v ++ slotBits (qdField v) ++ slotBits (qcField v) ++ slotBits (qbField v) ++ slotBits (qaField v) ++
      (rsv0Field v ++ opField v) := by
  simp only [rsv1Field, qdField, qcField, qbField, qaField, slotBits, BitVec.ofFin_toFin, rsv0Field, opField]
  iterate 6 rw [BitVec.extractLsb'_append_extractLsb'_eq_extractLsb' (by omega)]
  exact BitVec.extractLsb'_eq_self.symm

/-- R51: `LegalWord` in the terms of `decode`, which compares OP as a number. -/
theorem legalWord_iff_fields (v : Word) :
    LegalWord v ↔ (opField v).toNat ≤ 5 ∧ rsv0Field v = 0 ∧ rsv1Field v = 0 ∧
      ((opField v).toNat = 2 ∨ indexField v = 0) := by
  have hop : (opField v).toNat = 2 ↔ opField v = 2 := BitVec.toNat_inj (y := 2#4)
  rw [hop]
  rfl

/-! ## Commands and legal words -/

/-- R48 to R50: the decoder reads back the word of every command. -/
theorem decode_encode (i : Instr) : decode (encode i) = .ok i := by
  cases i with
  | qr a b c d =>
    obtain ⟨hop, hrsv0, hrsv1, ha, hb, hc, hd⟩ := fields_encode_qr a b c d
    simp [decode, hop, hrsv0, hrsv1, ha, hb, hc, hd]
  | nop | init | dround | block | clrin => decide

theorem legalWord_encode (i : Instr) : LegalWord (encode i) := by
  cases i with
  | qr a b c d => exact Laws.EncodeLegal.qr a b c d
  | nop | init | dround | block | clrin => decide

/-- R49, R51: the opcodes up to 5, QR first: it alone has index fields. -/
theorem opcode_cases : ∀ op : BitVec 4, op ≤ 5 → op = 2 ∨ op = 0 ∨ op = 1 ∨ op = 3 ∨ op = 4 ∨ op = 5 := by
  decide

/-- R49, R51: every legal word is the word of a command. -/
theorem exists_encode_of_legalWord {v : Word} (h : LegalWord v) : ∃ i, encode i = v := by
  obtain ⟨hle, hrsv0, hrsv1, hindex⟩ : opField v ≤ 5 ∧ rsv0Field v = 0 ∧ rsv1Field v = 0 ∧
    (opField v = 2 ∨ indexField v = 0) := h
  by_cases hqr : opField v = 2
  · refine ⟨.qr (qaField v) (qbField v) (qcField v) (qdField v), ?_⟩
    conv_rhs => rw [word_eq_append_slots v, hrsv0, hrsv1, hqr]
    rfl
  · rw [word_eq_append_fields v, hrsv0, hrsv1, hindex.resolve_left hqr]
    obtain hop | hop | hop | hop | hop | hop := opcode_cases _ hle
    · exact absurd hop hqr
    · exact ⟨.nop, by rw [hop]; rfl⟩
    · exact ⟨.init, by rw [hop]; rfl⟩
    · exact ⟨.dround, by rw [hop]; rfl⟩
    · exact ⟨.block, by rw [hop]; rfl⟩
    · exact ⟨.clrin, by rw [hop]; rfl⟩

theorem indexField_of_decodePlain {v : Word} {i j : Instr} (h : decodePlain v i = .ok j) : indexField v = 0 := by
  unfold decodePlain at h
  split at h
  · assumption
  · exact nomatch h

/-- R51: the decoder refuses every word that is not legal. -/
theorem legalWord_of_decode {v : Word} {i : Instr} (h : decode v = .ok i) : LegalWord v := by
  rw [legalWord_iff_fields]
  unfold decode at h
  split at h
  case isTrue => exact nomatch h
  case isFalse hrsv0 =>
    split at h
    case isTrue => exact nomatch h
    case isFalse hrsv1 =>
      split at h
      case h_3 hop => exact ⟨by omega, not_not.1 hrsv0, not_not.1 hrsv1, .inl hop⟩
      case h_7 => exact nomatch h
      all_goals exact ⟨by omega, not_not.1 hrsv0, not_not.1 hrsv1, .inr (indexField_of_decodePlain h)⟩

/-- R48 to R51: decoding a word is finding the command it is the word of. -/
theorem decode_eq_ok_iff {v : Word} {i : Instr} : decode v = .ok i ↔ encode i = v := by
  refine ⟨fun h => ?_, fun h => h ▸ decode_encode i⟩
  obtain ⟨j, rfl⟩ := exists_encode_of_legalWord (legalWord_of_decode h)
  rw [decode_encode] at h
  cases h
  rfl

theorem exists_encode_iff_legalWord {v : Word} : (∃ i, encode i = v) ↔ LegalWord v :=
  ⟨fun ⟨i, h⟩ => h ▸ legalWord_encode i, exists_encode_of_legalWord⟩

/-- Settles O2: each field of the word of a command is the one the decoder reads. -/
theorem decodeOfEncodeIsTheCommand : Obligations.DecodeOfEncodeIsTheCommand := decode_encode

/-- Settles O3: a word that decodes is legal, so it is the word of some command, which is the one decoded. -/
theorem encodeOfDecodeIsTheWord : Obligations.EncodeOfDecodeIsTheWord := fun _ _ => decode_eq_ok_iff.1

/-! ## Issue -/

theorem issue_of_not_legalWord {v : Word} (h : ¬ LegalWord v) (s : State) :
    issue v s = .next (s.raiseError .illegalCmd) := by
  obtain ⟨_, hi⟩ | ⟨i, hd, _⟩ := issue_cases (v := v) (s := s) rfl
  · exact hi
  · exact absurd (legalWord_of_decode hd) h

/-- Settles O4: the words that decode are the words of the commands, and those are the legal ones. -/
theorem legalWordsAreTheCommands : Obligations.LegalWordsAreTheCommands :=
  ⟨fun _ => by simp only [decode_eq_ok_iff, exists_encode_iff_legalWord], fun _ s h => issue_of_not_legalWord h s⟩

theorem issue_encode (i : Instr) (s : State) : issue (encode i) s = exec i s := issue_of_decode (decode_encode i) s

/-- R60: NOP changes nothing on an idle engine. -/
theorem exec_nop_of_idle {s : State} (h : s.engine.idle) : exec .nop s = .next s := by
  obtain ⟨hpend, hbusy⟩ := h
  simp [exec, execNop, hpend, hbusy]

/-- R53: on an idle engine the first failing check of a command is recorded. -/
theorem exec_raises {i : Instr} {s : State} {c : ErrorCode} (h : s.engine.idle) (hi : i ≠ .nop)
    (hc : commandCheck i s.engine = some c) : exec i s = .next (s.raiseError c) := by
  rw [exec_eq_runCommand hi, runCommand_raises h hc]

/-- R53: on an idle engine a command that passes its checks is accepted. -/
theorem exec_accepts {i : Instr} {s : State} (h : s.engine.idle) (hi : i ≠ .nop)
    (hc : commandCheck i s.engine = none) : exec i s = .next (s.accept i) := by
  rw [exec_eq_runCommand hi, runCommand_accepts h hc]

theorem initCheck_of_key_short {e : Engine} (h : ∃ j : Fin 8, e.KV.getLsbD j = false) :
    initCheck e = some .keyLength := by
  simp [initCheck, (keyComplete_eq_false_iff e).2 h]

theorem initCheck_of_nonce_short {e : Engine} (hk : ∀ j : Fin 8, e.KV.getLsbD j = true)
    (hn : ∃ j : Fin 3, e.NV.getLsbD j = false) : initCheck e = some .nonceLength := by
  simp [initCheck, (keyComplete_iff e).2 hk, (nonceComplete_eq_false_iff e).2 hn]

theorem initCheck_of_complete {e : Engine} (hk : ∀ j : Fin 8, e.KV.getLsbD j = true)
    (hn : ∀ j : Fin 3, e.NV.getLsbD j = true) : initCheck e = none := by
  simp [initCheck, (keyComplete_iff e).2 hk, (nonceComplete_iff e).2 hn]

/-- R52: `distinct` on the index fields of a word. -/
abbrev IndexFieldsDistinct (v : Word) : Prop :=
  [v.extractLsb' 8 4, v.extractLsb' 12 4, v.extractLsb' 16 4, v.extractLsb' 20 4].Nodup

theorem indexFieldsDistinct_iff (v : Word) :
    IndexFieldsDistinct v ↔ slotsDistinct (qaField v) (qbField v) (qcField v) (qdField v) = true := by
  rw [slotsDistinct_iff_nodup]
  exact (List.nodup_map_iff BitVec.toFin_injective).symm

theorem indexFieldsDistinct_encode_qr (a b c d : Slot) :
    IndexFieldsDistinct (encode (.qr a b c d)) ↔ slotsDistinct a b c d = true := by
  rw [indexFieldsDistinct_iff, qaField_encode_qr, qbField_encode_qr, qcField_encode_qr, qdField_encode_qr]

theorem eq_qr_of_opField {i : Instr} (h : opField (encode i) = 2) : ∃ a b c d, i = .qr a b c d := by
  cases i with
  | qr a b c d => exact ⟨a, b, c, d, rfl⟩
  | nop | init | dround | block | clrin => exact absurd h (by decide)

/-- R70: QR with a repeated slot fails its check. -/
theorem commandCheck_of_repeated {i : Instr} (hop : opField (encode i) = 2) (h : ¬ IndexFieldsDistinct (encode i))
    (e : Engine) : i ≠ .nop ∧ commandCheck i e = some .qrAlias := by
  obtain ⟨a, b, c, d, rfl⟩ := eq_qr_of_opField hop
  rw [indexFieldsDistinct_encode_qr] at h
  simp [commandCheck, qrCheck, h]

/-- R53: what a word must meet for its command to be accepted. -/
theorem commandCheck_eq_none {i : Instr} {e : Engine}
    (hinit : encode i = 1 → (∀ j : Fin 8, e.KV.getLsbD j = true) ∧ ∀ j : Fin 3, e.NV.getLsbD j = true)
    (hqr : opField (encode i) = 2 → IndexFieldsDistinct (encode i)) : commandCheck i e = none := by
  cases i with
  | init => exact initCheck_of_complete (hinit rfl).1 (hinit rfl).2
  | qr a b c d =>
    have h := (indexFieldsDistinct_encode_qr a b c d).1 (hqr (opField_encode_qr a b c d))
    simp [commandCheck, qrCheck, h]
  | nop | dround | block | clrin => rfl

/-- Settles O5: a legal word is the word of a command, which `exec` refuses by its first failing check or accepts. -/
theorem issueChecksInOrder : Obligations.IssueChecksInOrder := by
  intro v s hidle
  refine ⟨fun h => issue_of_not_legalWord h s, ?nop, ?key, ?nonce, ?repeated, ?accepted⟩
  case nop =>
    rintro rfl
    exact (issue_encode .nop s).trans (exec_nop_of_idle hidle)
  case key =>
    rintro rfl hk
    exact (issue_encode .init s).trans (exec_raises hidle (by decide) (initCheck_of_key_short hk))
  case nonce =>
    rintro rfl hk hn
    exact (issue_encode .init s).trans (exec_raises hidle (by decide) (initCheck_of_nonce_short hk hn))
  case repeated =>
    intro hlegal hop hrep
    obtain ⟨i, rfl⟩ := exists_encode_of_legalWord hlegal
    obtain ⟨hi, hc⟩ := commandCheck_of_repeated hop hrep s.engine
    exact (issue_encode i s).trans (exec_raises hidle hi hc)
  case accepted =>
    intro hlegal hne hinit hqr
    obtain ⟨i, rfl⟩ := exists_encode_of_legalWord hlegal
    have hi : i ≠ .nop := by
      rintro rfl
      exact hne rfl
    exact ⟨i, rfl, (issue_encode i s).trans (exec_accepts hidle hi (commandCheck_eq_none hinit hqr))⟩

/-! ## Fixed words, and the poll -/

/-- Settles O1: the first seven are the words of their commands; the decoder runs on the four illegal ones. -/
theorem tableWordsDecode : Obligations.TableWordsDecode :=
  ⟨decode_encode .nop, decode_encode .init, decode_encode (.qr 0 1 2 3), decode_encode (.qr 2 7 8 13),
    decode_encode .dround, decode_encode .block, decode_encode .clrin, by decide⟩

/-- Settles O8: the poll that heads the queue reads the STATUS word and stays exactly while BUSY is 1. -/
theorem waitPollsUntilIdle : Obligations.WaitPollsUntilIdle := by
  intro s rest h
  have hpoll : step s = .next (pollStatus (s.popped rest)) := step_next h
  rw [hpoll, pollStatus_eq, statusWord_eq_ofNat]
  rfl

end Sys2Proof.Machine
end

section
/-! PROOFS of the family 40_state_builder.md: the words that name INIT, CLRIN or NOP by their opcode and are not its
word, what INIT and CLRIN leave in the engine at completion, and from it the statements on the three commands. -/

namespace Sys2Proof.Machine

/-! ## Words by their opcode -/

/-- R51: the opcode of a legal word other than QR's fixes all of the word. -/
theorem eq_of_legalWord_of_opField {v w : Word} (hv : LegalWord v) (hw : LegalWord w) (hop : opField v = opField w)
    (hqr : opField w ≠ 2) : v = w := by
  obtain ⟨-, hv0, hv1, hvi⟩ : _ ∧ rsv0Field v = 0 ∧ rsv1Field v = 0 ∧ (opField v = 2 ∨ indexField v = 0) := hv
  obtain ⟨-, hw0, hw1, hwi⟩ : _ ∧ rsv0Field w = 0 ∧ rsv1Field w = 0 ∧ (opField w = 2 ∨ indexField w = 0) := hw
  rw [word_eq_append_fields v, word_eq_append_fields w, hv0, hv1, hvi.resolve_left (hop ▸ hqr), hop, hw0, hw1,
    hwi.resolve_left hqr]

/-- R51, R53: a word with the opcode of a command other than QR that is not its word is refused at issue. -/
theorem issue_of_opField_ne_word {v : Word} {i : Instr} (hqr : opField (encode i) ≠ 2)
    (hop : opField v = opField (encode i)) (hne : v ≠ encode i) (s : State) :
    issue v s = .next (s.raiseError .illegalCmd) :=
  issue_of_not_legalWord (fun hv => hne (eq_of_legalWord_of_opField hv (legalWord_encode i) hop hqr)) s

/-- R48: a word with a 1 above OP is not one that has none, such as those of INIT, CLRIN and NOP. -/
theorem ne_of_high_bits {v w : Word} (hv : v.extractLsb' 4 28 ≠ 0) (hw : w.extractLsb' 4 28 = 0) : v ≠ w := by
  rintro rfl
  exact hv hw

/-- R36: while BUSY is 1 a write to CMD is dropped, whatever its word. -/
theorem regWrite_cmd_busy {s : State} (v : Word) (hb : s.engine.BUSY = true) :
    regWrite 0x74 v s = .next (s.raiseError .busyWrite) :=
  regWrite_of_guarded v hb (by decide)

/-! ## The effects at completion -/

/-- R14, R15, R57: INIT writes the constants, the key, the counter and the nonce to S, and nothing else. -/
theorem initEffect_eq (e : Engine) : initEffect e = { e with
    S := #v[0x61707865, 0x3320646e, 0x79622d32, 0x6b206574, e.K[0], e.K[1], e.K[2], e.K[3],
      e.K[4], e.K[5], e.K[6], e.K[7], e.CTR, e.N[0], e.N[1], e.N[2]] } := rfl

/-- R59: CLRIN sets the five latch fields to 0, and nothing else. -/
theorem clrinEffect_eq (e : Engine) : clrinEffect e =
    { e with K := #v[0, 0, 0, 0, 0, 0, 0, 0], KV := 0, N := #v[0, 0, 0], NV := 0, CTR := 0 } := rfl

/-- R92: a completion leaves the engine idle. -/
theorem State.complete_idle (effect : Engine → Engine) (s : State) : (s.complete effect).engine.idle := ⟨rfl, rfl⟩

/-! ## INIT -/

/-- R57: with a key word missing, INIT reports KEY_LENGTH, whatever the nonce. -/
theorem execInit_keyLength {s : State} (h : s.engine.idle) (hk : ∃ j : Fin 8, s.engine.KV.getLsbD j = false) :
    exec .init s = .next (s.raiseError .keyLength) :=
  exec_raises h (by decide) (initCheck_of_key_short hk)

/-- Settles O9: the two checks of INIT in their order, its acceptance and its effect, and the refusal of any other word
with its opcode. -/
theorem initBuildsTheState : Obligations.InitBuildsTheState := by
  refine ⟨rfl, fun s => execInit_keyLength, ?nonce, ?accepted, ?completes, ?illegal, fun s => regWrite_cmd_busy 1⟩
  case nonce => exact fun s hidle hk hn => exec_raises hidle (by decide) (initCheck_of_nonce_short hk hn)
  case accepted => exact fun s hidle hk hn => exec_accepts hidle (by decide) (initCheck_of_complete hk hn)
  case completes =>
    intro s hpend
    rw [exec_pending hpend, State.complete, commandEffect, initEffect_eq]
    rfl
  case illegal => exact fun s v _ hop hne => issue_of_opField_ne_word (i := .init) (by decide) hop hne s

/-- Settles O10: the check of the key comes first, and with ERR = 0 its error is recorded. -/
theorem initReportsTheKeyFirst : Obligations.InitReportsTheKeyFirst := by
  intro s hidle herr hk _
  rw [execInit_keyLength hidle hk, State.raiseError, Engine.raiseError_of_clear _ herr]
  rfl

/-! ## CLRIN -/

/-- R59: after CLRIN no key word is latched, so INIT fails. -/
theorem execInit_after_clrin (s : State) :
    exec .init (s.complete clrinEffect) = .next ((s.complete clrinEffect).raiseError .keyLength) :=
  execInit_keyLength (s.complete_idle clrinEffect) ⟨0, BitVec.getLsbD_zero⟩

/-- Settles O11: CLRIN has no check, and its effect clears the latches, so that the INIT after it misses its key. -/
theorem clrinClearsTheLatches : Obligations.ClrinClearsTheLatches := by
  refine ⟨rfl, fun s hidle => exec_accepts hidle (by decide) rfl, ?completes, ?illegal, fun s => regWrite_cmd_busy 5,
    ?init⟩
  case completes =>
    intro s hpend
    rw [exec_pending hpend, State.complete, commandEffect, clrinEffect_eq]
    rfl
  case illegal =>
    intro s v _ hop hhigh
    exact issue_of_opField_ne_word (i := .clrin) (by decide) hop (ne_of_high_bits hhigh (by decide)) s
  case init =>
    intro s t hpend ht
    rw [exec_pending hpend] at ht
    cases ht
    exact execInit_after_clrin s

/-! ## NOP -/

/-- Settles O12: on an idle engine NOP answers the same state; its word meets the two errors of any command word. -/
theorem nopChangesNothing : Obligations.NopChangesNothing := by
  refine ⟨rfl, fun s => exec_nop_of_idle, ?illegal, fun s => regWrite_cmd_busy 0⟩
  intro s v _ hop hhigh
  exact issue_of_opField_ne_word (i := .nop) (by decide) hop (ne_of_high_bits hhigh (by decide)) s

end Sys2Proof.Machine
end

section
/-! PROOFS of the family 41_permutation.md: the rotations bit by bit, the word operations as bijections, and what a list
of quarter-rounds on groups without a common slot does to a block, which gives the two passes; from it the statements on
the permutation and on QR, DROUND and BLOCK. -/

namespace Sys2Proof.Machine

/-! ## Rotations -/

/-- R9: bit `k` of a rotation by `n`. -/
theorem getLsbD_rotl {n k : Nat} (hn : n ≤ 32) (hk : k < 32) (x : Word) :
    (rotl x n).getLsbD k = if k < n then x.getLsbD (32 - n + k) else x.getLsbD (k - n) := by
  rw [rotl, BitVec.getLsbD_or, BitVec.getLsbD_shiftLeft, BitVec.getLsbD_ushiftRight]
  by_cases hkn : k < n
  · simp [hkn]
  · simp [hkn, hk, BitVec.getLsbD_of_ge x (32 - n + k) (by omega)]

/-- R61: a rotation by `n` puts the low `m` bits above the high `n` bits. -/
theorem rotl_eq_append_slices {m n : Nat} (h : m + n = 32) (x : Word) :
    rotl x n = (x.extractLsb' 0 m ++ x.extractLsb' m n).cast h := by
  refine BitVec.eq_of_getLsbD_eq fun k hk => ?_
  rw [getLsbD_rotl (by omega) hk, BitVec.getLsbD_cast, BitVec.getLsbD_append, BitVec.getLsbD_extractLsb',
    BitVec.getLsbD_extractLsb']
  by_cases hkn : k < n
  · simp [hkn, show 32 - n = m by omega]
  · simp [hkn, show k - n < m by omega]

/-- Settles O16: each of the four is a rotation by `n` seen as the slices of widths `32 - n` and `n`. -/
theorem rotationsAreTheSlices : Obligations.RotationsAreTheSlices :=
  fun x => ⟨rotl_eq_append_slices (m := 16) rfl x, rotl_eq_append_slices (m := 20) rfl x,
    rotl_eq_append_slices (m := 24) rfl x, rotl_eq_append_slices (m := 25) rfl x⟩

/-- R69 (b): two rotations by 32 places together are none. -/
theorem rotl_rotl {m n : Nat} (h : m + n = 32) (x : Word) : rotl (rotl x n) m = x := by
  refine BitVec.eq_of_getLsbD_eq fun k hk => ?_
  rw [getLsbD_rotl (by omega) hk]
  by_cases hkm : k < m
  · rw [if_pos hkm, getLsbD_rotl (by omega) (by omega), if_neg (by omega)]
    congr 1
    omega
  · rw [if_neg hkm, getLsbD_rotl (by omega) (by omega), if_pos (by omega)]
    congr 1
    omega

/-! ## Bijections -/

theorem bijective_addSlot {x y : Slot} (h : x ≠ y) : Function.Bijective (addSlot x y) := by
  refine Function.bijective_iff_has_inverse.2 ⟨fun S => S.set x (S[x] - S[y]), fun S => ?_, fun S => ?_⟩ <;>
    simp [addSlot, Fin.val_ne_of_ne h]

theorem bijective_xorSlot {x y : Slot} (h : x ≠ y) : Function.Bijective (xorSlot x y) := by
  refine Function.Involutive.bijective fun S => ?_
  simp [xorSlot, Fin.val_ne_of_ne h]

theorem bijective_rotSlot (x : Slot) {n : Nat} (h : n ≤ 32) : Function.Bijective (rotSlot x n) := by
  refine Function.bijective_iff_has_inverse.2 ⟨rotSlot x (32 - n), fun S => ?_, fun S => ?_⟩
  · simp [rotSlot, rotl_rotl (show 32 - n + n = 32 by omega)]
  · simp [rotSlot, rotl_rotl (show n + (32 - n) = 32 by omega)]

theorem bijective_quarterStep {x y z : Slot} (hxy : x ≠ y) (hxz : x ≠ z) {n : Nat} (hn : n ≤ 32) :
    Function.Bijective (quarterStep x y z n) :=
  (bijective_rotSlot z hn).comp ((bijective_xorSlot hxz.symm).comp (bijective_addSlot hxy))

/-- R69 (b): each of the four steps of a quarter-round on distinct slots can be undone. -/
theorem bijective_quarterRound {a b c d : Slot} (h : [a, b, c, d].Nodup) :
    Function.Bijective fun S : Block => quarterRound S a b c d := by
  simp only [List.nodup_cons, List.mem_cons, List.not_mem_nil, not_or, or_false] at h
  obtain ⟨⟨hab, -, had⟩, ⟨hbc, -⟩, hcd, -⟩ := h
  have hstepA {n : Nat} (hn : n ≤ 32) := bijective_quarterStep hab had hn
  have hstepC {n : Nat} (hn : n ≤ 32) := bijective_quarterStep hcd (Ne.symm hbc) hn
  exact (hstepC (n := 7) (by decide)).comp ((hstepA (n := 8) (by decide)).comp
    ((hstepC (n := 12) (by decide)).comp (hstepA (n := 16) (by decide))))

/-! ## Quarter-rounds on a list of groups -/

theorem eq_of_forall_slot {S T : Block} (h : ∀ i : Slot, S[i] = T[i]) : S = T := Vector.ext fun n hn => h ⟨n, hn⟩

/-- R64, R65: the four slots one quarter-round of a pass works on. -/
abbrev SlotGroup := Slot × Slot × Slot × Slot

def SlotGroup.slots (g : SlotGroup) : List Slot := [g.1, g.2.1, g.2.2.1, g.2.2.2]

/-- `QuarterRounded` on the slots of a group. -/
def SlotGroup.Rounded (S T : Block) (g : SlotGroup) : Prop := QuarterRounded S T g.1 g.2.1 g.2.2.1 g.2.2.2

def groupSlots (gs : List SlotGroup) : List Slot := gs.flatMap SlotGroup.slots

/-- The quarter-rounds on the groups of a list, in its order. -/
def runGroups (gs : List SlotGroup) (S : Block) : Block :=
  gs.foldl (fun S g => quarterRound S g.1 g.2.1 g.2.2.1 g.2.2.2) S

theorem runGroups_cons (g : SlotGroup) (gs : List SlotGroup) (S : Block) :
    runGroups (g :: gs) S = runGroups gs (runGroups [g] S) := rfl

theorem groupSlots_cons (g : SlotGroup) (gs : List SlotGroup) : groupSlots (g :: gs) = g.slots ++ groupSlots gs := rfl

theorem groupSlots_perm {gs gs' : List SlotGroup} (h : gs.Perm gs') : (groupSlots gs).Perm (groupSlots gs') :=
  h.flatMap_right _

theorem SlotGroup.Rounded.congr {S S' T T' : Block} {g : SlotGroup} (h : g.Rounded S T)
    (hS : ∀ i ∈ g.slots, S[i] = S'[i]) (hT : ∀ i ∈ g.slots, T[i] = T'[i]) : g.Rounded S' T' := by
  simp only [SlotGroup.slots, List.forall_mem_cons, List.not_mem_nil, false_imp_iff, forall_true_iff, and_true] at hS hT
  exact QuarterRounded.congr h hS hT

/-- The words of a block determine the four words a quarter-round leaves. -/
theorem SlotGroup.Rounded.unique {S T T' : Block} {g : SlotGroup} (h : g.Rounded S T) (h' : g.Rounded S T') :
    ∀ i ∈ g.slots, T[i] = T'[i] := by
  have heq := Eq.trans h (Eq.symm h')
  simpa [SlotGroup.slots] using heq

theorem runGroups_singleton_frame {g : SlotGroup} {i : Slot} (S : Block) (hi : i ∉ g.slots) :
    (runGroups [g] S)[i] = S[i] :=
  quarterRound_frame S g.1 g.2.1 g.2.2.1 g.2.2.2 i hi

theorem rounded_runGroups_singleton {g : SlotGroup} (S : Block) (h : g.slots.Nodup) : g.Rounded S (runGroups [g] S) :=
  quarterRound_spec S g.1 g.2.1 g.2.2.1 g.2.2.2 h

theorem runGroups_frame {gs : List SlotGroup} {i : Slot} (S : Block) (hi : i ∉ groupSlots gs) :
    (runGroups gs S)[i] = S[i] := by
  induction gs generalizing S with
  | nil => rfl
  | cons g gs ih =>
    rw [groupSlots_cons, List.mem_append, not_or] at hi
    rw [runGroups_cons, ih _ hi.2, runGroups_singleton_frame S hi.1]

/-- R66: with no slot in two groups, every group is mixed from the words the block held at the start. -/
theorem rounded_runGroups {gs : List SlotGroup} (S : Block) (hnodup : (groupSlots gs).Nodup) :
    ∀ g ∈ gs, g.Rounded S (runGroups gs S) := by
  induction gs generalizing S with
  | nil => exact fun g hg => nomatch hg
  | cons g₀ gs ih =>
    obtain ⟨hg₀, hgs, hdisj⟩ := List.nodup_append'.1 (groupSlots_cons g₀ gs ▸ hnodup)
    rw [List.forall_mem_cons, runGroups_cons]
    refine ⟨(rounded_runGroups_singleton S hg₀).congr (fun _ _ => rfl) fun i hi => ?_, fun g hg => ?_⟩
    · exact (runGroups_frame _ (hdisj hi)).symm
    · refine (ih (runGroups [g₀] S) hgs g hg).congr (fun i hi => ?_) fun _ _ => rfl
      exact runGroups_singleton_frame S fun hi₀ => hdisj hi₀ (List.mem_flatMap.2 ⟨g, hg, hi⟩)

/-- R66: with no slot in two groups, the order of the quarter-rounds is of no matter: it is the starting block alone that
fixes each group's words. -/
theorem runGroups_perm {gs gs' : List SlotGroup} (h : gs.Perm gs') (hnodup : (groupSlots gs').Nodup) (S : Block) :
    runGroups gs S = runGroups gs' S := by
  have hslots := groupSlots_perm h
  refine eq_of_forall_slot fun i => ?_
  by_cases hi : i ∈ groupSlots gs'
  · obtain ⟨g, hg, hig⟩ := List.mem_flatMap.1 hi
    have hround := rounded_runGroups S (hslots.nodup_iff.2 hnodup) g (h.mem_iff.2 hg)
    exact hround.unique (rounded_runGroups S hnodup g hg) i hig
  · rw [runGroups_frame S hi, runGroups_frame S (mt hslots.mem_iff.1 hi)]

theorem bijective_runGroups {gs : List SlotGroup} (hnodup : (groupSlots gs).Nodup) :
    Function.Bijective (runGroups gs) := by
  induction gs with
  | nil => exact Function.bijective_id
  | cons g gs ih =>
    obtain ⟨hg, hgs, -⟩ := List.nodup_append'.1 (groupSlots_cons g gs ▸ hnodup)
    exact (ih hgs).comp (bijective_quarterRound hg)

/-! ## The two passes -/

/-- R12, R64: the slots of column k. -/
def columnGroup (k : Fin 4) : SlotGroup :=
  (⟨k.val, by omega⟩, ⟨k.val + 4, by omega⟩, ⟨k.val + 8, by omega⟩, ⟨k.val + 12, by omega⟩)

/-- R65: the slots of diagonal k. -/
def diagonalGroup (k : Fin 4) : SlotGroup :=
  (⟨k.val, by omega⟩, ⟨4 + (k.val + 1) % 4, by omega⟩, ⟨8 + (k.val + 2) % 4, by omega⟩, ⟨12 + (k.val + 3) % 4, by omega⟩)

def columnGroups : List SlotGroup := (List.finRange 4).map columnGroup

def diagonalGroups : List SlotGroup := (List.finRange 4).map diagonalGroup

theorem columnPass_eq_runGroups : columnPass = runGroups columnGroups := rfl

theorem diagonalPass_eq_runGroups : diagonalPass = runGroups diagonalGroups := rfl

theorem doubleRound_eq_comp : doubleRound = diagonalPass ∘ columnPass := rfl

theorem nodup_columnSlots : (groupSlots columnGroups).Nodup := by decide

theorem nodup_diagonalSlots : (groupSlots diagonalGroups).Nodup := by decide

theorem columnMixed_columnPass (S : Block) (k : Fin 4) : ColumnMixed S (columnPass S) k :=
  rounded_runGroups S nodup_columnSlots (columnGroup k) (List.mem_map_of_mem (List.mem_finRange k))

theorem diagonalMixed_diagonalPass (S : Block) (k : Fin 4) : DiagonalMixed S (diagonalPass S) k :=
  rounded_runGroups S nodup_diagonalSlots (diagonalGroup k) (List.mem_map_of_mem (List.mem_finRange k))

/-- R67: the block between the two passes is the `M` of `DoubleRounded`. -/
theorem doubleRounded_doubleRound (S : Block) : DoubleRounded S (doubleRound S) :=
  ⟨columnPass S, columnMixed_columnPass S, diagonalMixed_diagonalPass (columnPass S)⟩

theorem doubleRoundedTimes_doubleRounds (n : Nat) (S : Block) : DoubleRoundedTimes n S (doubleRounds n S) := by
  induction n generalizing S with
  | zero => rfl
  | succ n ih => exact ⟨doubleRound S, doubleRounded_doubleRound S, ih (doubleRound S)⟩

theorem bijective_doubleRound : Function.Bijective doubleRound := by
  rw [doubleRound_eq_comp, columnPass_eq_runGroups, diagonalPass_eq_runGroups]
  exact (bijective_runGroups nodup_diagonalSlots).comp (bijective_runGroups nodup_columnSlots)

/-- Settles O19: compositions of additions, exclusive ors and rotations, each of which can be undone. -/
theorem roundsAreBijections : Obligations.RoundsAreBijections :=
  ⟨fun _ _ _ _ => bijective_quarterRound, bijective_doubleRound⟩

/-- R66: on the state of V-INIT-2 the order of the two passes matters. -/
theorem passes_do_not_commute :
    diagonalPass (columnPass (initBlock (Vector.replicate 8 0) 0 (Vector.replicate 3 0))) ≠
      columnPass (diagonalPass (initBlock (Vector.replicate 8 0) 0 (Vector.replicate 3 0))) := by
  decide +kernel

/-- Settles O17: the groups of a pass share no slot, so any order of them gives the pass. -/
theorem quarterRoundsOfAPassCommute : Obligations.QuarterRoundsOfAPassCommute :=
  ⟨by decide, fun _ h S => runGroups_perm (gs' := columnGroups) h nodup_columnSlots S,
    fun _ h S => runGroups_perm (gs' := diagonalGroups) h nodup_diagonalSlots S, _, passes_do_not_commute⟩

/-! ## The zero block -/

/-- R69 (a): the block of zeros. -/
abbrev zeroBlock : Block := Vector.replicate 16 0

theorem quarterStep_zeroBlock (x y z : Slot) (n : Nat) : quarterStep x y z n zeroBlock = zeroBlock := by
  simp [zeroBlock, quarterStep, addSlot, xorSlot, rotSlot, rotl]

theorem quarterRound_zeroBlock (a b c d : Slot) : quarterRound zeroBlock a b c d = zeroBlock := by
  simp only [quarterRound, quarterStep_zeroBlock]

theorem doubleRound_zeroBlock : doubleRound zeroBlock = zeroBlock := by
  simp only [doubleRound, columnPass, diagonalPass, quarterRound_zeroBlock]

theorem doubleRounds_zeroBlock (n : Nat) : doubleRounds n zeroBlock = zeroBlock := by
  induction n with
  | zero => rfl
  | succ n ih => rw [doubleRounds, doubleRound_zeroBlock, ih]

theorem blockWords_zeroBlock : blockWords zeroBlock = zeroBlock := by
  rw [blockWords, doubleRounds_zeroBlock]
  simp [zeroBlock]

/-- Settles O18: a quarter-round of zeros writes zeros; the two double-rounds are computed. -/
theorem zeroBlockIsAFixedPoint : Obligations.ZeroBlockIsAFixedPoint :=
  ⟨fun a b c d _ => quarterRound_zeroBlock a b c d, doubleRound_zeroBlock, blockWords_zeroBlock, by decide +kernel,
    by decide +kernel⟩

/-! ## QR, DROUND and BLOCK -/

theorem toNat_append_eq_add {m n : Nat} (x : BitVec m) (y : BitVec n) :
    (x ++ y).toNat = x.toNat * 2 ^ n + y.toNat := by
  rw [BitVec.toNat_append, ← Nat.shiftLeft_add_eq_or_of_lt y.isLt, Nat.shiftLeft_eq]

/-- R48, R70: the word of QR as a number. -/
theorem encode_qr_eq_ofNat (a b c d : Slot) : encode (.qr a b c d) =
    BitVec.ofNat 32 (2 + a.val * 2 ^ 8 + b.val * 2 ^ 12 + c.val * 2 ^ 16 + d.val * 2 ^ 20) := by
  refine BitVec.eq_of_toNat_eq ?_
  simp only [encode, slotBits, toNat_append_eq_add, BitVec.toNat_ofFin, BitVec.toNat_ofNat]
  omega

theorem qrCheck_of_repeated {a b c d : Slot} (h : ¬ [a, b, c, d].Nodup) (e : Engine) :
    qrCheck a b c d e = some .qrAlias :=
  if_neg (mt (slotsDistinct_iff_nodup a b c d).1 h)

theorem qrCheck_of_distinct {a b c d : Slot} (h : [a, b, c, d].Nodup) (e : Engine) : qrCheck a b c d e = none :=
  if_pos ((slotsDistinct_iff_nodup a b c d).2 h)

/-- R51: a 1 in RSV0 or RSV1 makes a word illegal. -/
theorem not_legalWord_of_reserved_bits {v : Word} (h : v.extractLsb' 4 4 ≠ 0 ∨ v.extractLsb' 24 8 ≠ 0) :
    ¬ LegalWord v := by
  rintro ⟨-, hrsv0, hrsv1, -⟩
  exact h.elim (· hrsv0) (· hrsv1)

/-- R70: QR writes S and nothing else. -/
theorem commandEffect_qr (a b c d : Slot) (e : Engine) :
    commandEffect (.qr a b c d) e = { e with S := quarterRound e.S a b c d } := rfl

/-- R71: DROUND writes S and nothing else. -/
theorem commandEffect_dround (e : Engine) : commandEffect .dround e = { e with S := doubleRound e.S } := rfl

/-- R72: BLOCK writes O and S and nothing else. -/
theorem commandEffect_block (e : Engine) : commandEffect .block e = { e with O := e.S, S := blockWords e.S } := rfl

/-- Settles O13: the check of QR at issue, and at completion its quarter-round, which keeps every other word. -/
theorem qrMixesItsFourSlots : Obligations.QrMixesItsFourSlots := by
  refine ⟨encode_qr_eq_ofNat, ?repeated, ?accepted, ?completes, ?illegal, fun s a b c d => regWrite_cmd_busy _⟩
  case repeated =>
    intro s a b c d hidle h
    exact exec_raises hidle (by simp) (qrCheck_of_repeated h s.engine)
  case accepted =>
    intro s a b c d hidle h
    exact exec_accepts hidle (by simp) (qrCheck_of_distinct h s.engine)
  case completes =>
    intro s a b c d hpend h
    refine ⟨quarterRound s.engine.S a b c d, ?_, quarterRound_spec s.engine.S a b c d h,
      quarterRound_frame s.engine.S a b c d⟩
    rw [exec_pending hpend, State.complete, commandEffect_qr]
    rfl
  case illegal => exact fun s v _ _ hbits => issue_of_not_legalWord (not_legalWord_of_reserved_bits hbits) s

/-- Settles O14: DROUND has no check, and its effect is one double-round. -/
theorem droundMixesColumnsThenDiagonals : Obligations.DroundMixesColumnsThenDiagonals := by
  refine ⟨rfl, fun s hidle => exec_accepts hidle (by decide) rfl, ?completes, ?illegal, fun s => regWrite_cmd_busy 3⟩
  case completes =>
    intro s hpend
    refine ⟨doubleRound s.engine.S, ?_, doubleRounded_doubleRound s.engine.S⟩
    rw [exec_pending hpend, State.complete, commandEffect_dround]
    rfl
  case illegal =>
    intro s v _ hop hhigh
    exact issue_of_opField_ne_word (i := .dround) (by decide) hop (ne_of_high_bits hhigh (by decide)) s

/-- R68: the feed-forward adds the words the block held at the start. -/
theorem blockWords_get (S : Block) (i : Slot) : (blockWords S)[i] = (doubleRounds 10 S)[i] + S[i] := by
  simp [blockWords]

/-- Settles O15: BLOCK has no check, and its effect keeps the old words in O and adds them to the ten double-rounds. -/
theorem blockMakesTheKeystreamBlock : Obligations.BlockMakesTheKeystreamBlock := by
  refine ⟨rfl, fun s hidle => exec_accepts hidle (by decide) rfl, ?completes, ?illegal, fun s => regWrite_cmd_busy 4⟩
  case completes =>
    intro s hpend
    refine ⟨doubleRounds 10 s.engine.S, blockWords s.engine.S, ?_, doubleRoundedTimes_doubleRounds 10 s.engine.S,
      blockWords_get s.engine.S⟩
    rw [exec_pending hpend, State.complete, commandEffect_block]
    rfl
  case illegal =>
    intro s v _ hop hhigh
    exact issue_of_opField_ne_word (i := .block) (by decide) hop (ne_of_high_bits hhigh (by decide)) s

end Sys2Proof.Machine
end

section
/-! PROOFS of the family 60_exceptions.md: what one step can do to ERR and ERRCODE (`step_errorChange`), the condition
behind each code, and the agreement of the steps from two states that differ in the error alone (`OutcomesAgree`), from
the command up to the step; from them the statements on errors, and the quiet step. -/

namespace Sys2Proof.Machine

/-! ## The quiet step, and the first error -/

/-- R88: with no completion due and no operation left, only latency passes. -/
theorem step_quiet {s : State} (hd : NotDue s) (hin : s.inputs = []) : step s = .next s.tick := by
  simp [step, advance, completionDue_eq_none.2 hd, hin]

/-- Settles O7: with nothing pending no completion is due. -/
theorem idleEngineHoldsItsState : Obligations.IdleEngineHoldsItsState :=
  fun _ hpend hin => step_quiet (fun _ => hpend) hin

/-- Settles O29: `raiseError` on a clear and on a standing error, and the five codes. -/
theorem firstErrorIsKept : Obligations.FirstErrorIsKept :=
  ⟨fun _ c => Engine.raiseError_of_clear c, fun _ c => Engine.raiseError_of_set c, rfl, rfl, rfl, rfl, rfl⟩

/-! ## What a step does to ERR and ERRCODE -/

/-- R76: a write of `v` to STATUS clears the error, or leaves the engine. -/
theorem Engine.writeStatus_cases (v : Word) (e : Engine) :
    (v.getLsbD 1 = true ∧ e.writeStatus v = e.clearError) ∨ e.writeStatus v = e := by
  unfold Engine.writeStatus
  split
  · exact .inl ⟨‹_›, rfl⟩
  · exact .inr rfl

/-- R75, R76, R89: ERR and ERRCODE are kept, reset, cleared by a STATUS write, or raised by a write with a cause. -/
theorem step_errorChange {s t : State} (h : step s = .next t) :
    (t.engine.ERR = s.engine.ERR ∧ t.engine.ERRCODE = s.engine.ERRCODE) ∨
    (∃ rest, Next s .reset rest ∧ t.engine = Engine.reset) ∨
    (∃ v rest, Next s (.write 0x78 4 v) rest ∧ v.getLsbD 1 = true ∧ t.engine = s.engine.clearError) ∨
    ∃ r v rest c, Next s (.write (regOffset r) 4 v) rest ∧ ErrorCause s.engine r v c ∧
      t.engine = s.engine.raiseError c := by
  cases step_event h with
  | completes _ _ | inconsistent _ _ _ _ _ _ => exact .inl (by simp)
  | quiet _ _ | reads _ _ _ _ | ignores _ _ _ _ _ _ | nops _ _ _ _ _ | accepts _ _ _ _ _ _ _ _ =>
    exact .inl ⟨rfl, rfl⟩
  | polls _ _ => exact .inl (by simp)
  | resets rest hn => exact .inr (.inl ⟨rest, hn, rfl⟩)
  | stores r v rest hn _ _ =>
    by_cases hr : r = .status
    · subst hr
      obtain ⟨hv, hw⟩ | hw := s.engine.writeStatus_cases v
      · exact .inr (.inr (.inl ⟨v, rest, hn, hv, hw⟩))
      · exact .inl ⟨congrArg Engine.ERR hw, congrArg Engine.ERRCODE hw⟩
    · exact .inl (Engine.writeReg_error_of_ne_status hr v s.engine)
  | raises r v rest c hn hc => exact .inr (.inr (.inr ⟨r, v, rest, c, hn, hc, rfl⟩))

/-- Settles O30: an error raised over a standing one is not recorded, and of the other changes only the two named in the
statement touch it. -/
theorem errorsStayUntilCleared : Obligations.ErrorsStayUntilCleared := by
  refine ⟨fun s t v rest hn hv h => ?status, fun s t rest hn h => ?reset, fun s t h herr => ?other⟩
  case status =>
    cases (step_write_reg hn (r := .status) rfl (by simp) (.inr rfl)).symm.trans h
    have hw : s.engine.writeStatus v = s.engine.clearError := if_pos hv
    exact ⟨congrArg Engine.ERR hw, congrArg Engine.ERRCODE hw⟩
  case reset =>
    cases (step_next hn).symm.trans h
    exact ⟨rfl, rfl⟩
  case other =>
    obtain ⟨hE, hC⟩ | ⟨rest, hn, _⟩ | ⟨v, rest, hn, hv, _⟩ | ⟨_, _, _, c, _, _, ht⟩ := step_errorChange h
    · exact .inl ⟨hE.trans herr, hC⟩
    · exact .inr (.inr ⟨rest, hn⟩)
    · exact .inr (.inl ⟨v, rest, hn, hv⟩)
    · rw [ht, Engine.raiseError_of_set c herr]
      exact .inl ⟨herr, rfl⟩

/-! ## The condition behind each code -/

theorem guardedOffset_regOffset {r : Reg} (h : regGuarded r = true) : GuardedOffset (regOffset r) := by
  rw [guardedOffset_iff, regAt_regOffset]
  exact ⟨regOffset_aligned r, h⟩

/-- R51: a word the decoder refuses is not legal. -/
theorem not_legalWord_of_decode_error {v : Word} {x : Illegal} (h : decode v = .error x) : ¬ LegalWord v := by
  intro hlegal
  obtain ⟨i, rfl⟩ := exists_encode_of_legalWord hlegal
  exact nomatch h.symm.trans (decode_encode i)

/-- R57, R58: INIT fails for want of a key word, or of a nonce word with the key complete. -/
theorem initCheck_eq_some {e : Engine} {c : ErrorCode} (h : initCheck e = some c) :
    (c = .keyLength ∧ ∃ j : Fin 8, e.KV.getLsbD j = false) ∨
    (c = .nonceLength ∧ (∀ j : Fin 8, e.KV.getLsbD j = true) ∧ ∃ j : Fin 3, e.NV.getLsbD j = false) := by
  cases hk : keyComplete e with
  | false => exact .inl ⟨by simpa [initCheck, hk, eq_comm] using h, (keyComplete_eq_false_iff e).1 hk⟩
  | true =>
    cases hn : nonceComplete e with
    | false =>
      exact .inr ⟨by simpa [initCheck, hk, hn, eq_comm] using h, (keyComplete_iff e).1 hk,
        (nonceComplete_eq_false_iff e).1 hn⟩
    | true => simp [initCheck, hk, hn] at h

/-- R52: INIT and QR alone have checks that fail. -/
theorem commandCheck_eq_some {i : Instr} {e : Engine} {c : ErrorCode} (h : commandCheck i e = some c) :
    (i = .init ∧ initCheck e = some c) ∨
    ∃ a b c' d, i = .qr a b c' d ∧ c = .qrAlias ∧ ¬ slotsDistinct a b c' d = true := by
  cases i with
  | init => exact .inl ⟨rfl, h⟩
  | qr a b c' d =>
    simp only [commandCheck, qrCheck] at h
    split at h
    · exact nomatch h
    · exact .inr ⟨a, b, c', d, rfl, by simpa [eq_comm] using h, ‹_›⟩
  | nop | dround | block | clrin => exact nomatch h

/-- R73: what must hold of the write of `v` to `off` for the error `c`. -/
def ErrorCondition (e : Engine) (off : Offset) (v : Word) : ErrorCode → Prop
  | .keyLength => off = 0x74 ∧ e.BUSY = false ∧ v = 1 ∧ ∃ j : Fin 8, e.KV.getLsbD j = false
  | .nonceLength => off = 0x74 ∧ e.BUSY = false ∧ v = 1 ∧
      (∀ j : Fin 8, e.KV.getLsbD j = true) ∧ ∃ j : Fin 3, e.NV.getLsbD j = false
  | .illegalCmd => off = 0x74 ∧ e.BUSY = false ∧ ¬ LegalWord v
  | .qrAlias => off = 0x74 ∧ e.BUSY = false ∧ LegalWord v ∧ opField v = 2 ∧ ¬ IndexFieldsDistinct v
  | .busyWrite => e.BUSY = true ∧ GuardedOffset off

theorem ErrorCause.condition {e : Engine} {r : Reg} {v : Word} {c : ErrorCode} (h : ErrorCause e r v c) :
    ErrorCondition e (regOffset r) v c := by
  cases h with
  | busy hb hg => exact ⟨hb, guardedOffset_regOffset hg⟩
  | illegal hb hr x hd =>
    subst hr
    exact ⟨rfl, hb, not_legalWord_of_decode_error hd⟩
  | check hb hr i _ hd hc =>
    subst hr
    obtain rfl := decode_eq_ok_iff.1 hd
    obtain ⟨rfl, hinit⟩ | ⟨x, y, z, w, rfl, rfl, hrep⟩ := commandCheck_eq_some hc
    · obtain ⟨rfl, hk⟩ | ⟨rfl, hk, hn⟩ := initCheck_eq_some hinit
      · exact ⟨rfl, hb, rfl, hk⟩
      · exact ⟨rfl, hb, rfl, hk, hn⟩
    · exact ⟨rfl, hb, legalWord_encode _, opField_encode_qr x y z w,
        fun hdist => hrep ((indexFieldsDistinct_encode_qr x y z w).1 hdist)⟩

/-- Settles O31: of the changes to ERR only a raised error sets it, and its cause is its code's condition. -/
theorem recordedErrorsHaveTheirCause : Obligations.RecordedErrorsHaveTheirCause := by
  intro s t _ h hs ht
  obtain ⟨hE, _⟩ | ⟨_, _, he⟩ | ⟨_, _, _, _, he⟩ | ⟨r, v, rest, c, hn, hcause, he⟩ := step_errorChange h
  · exact nomatch ht.symm.trans (hE.trans hs)
  · rw [he] at ht
    exact nomatch ht
  · rw [he] at ht
    exact nomatch ht
  · rw [he]
    refine ⟨.raiseError c _, regOffset r, v, rest, hn, ?_⟩
    rw [Engine.raiseError_of_clear c hs]
    have hcond := hcause.condition
    cases c with
    | keyLength => exact .inl ⟨rfl, hcond⟩
    | nonceLength => exact .inr (.inl ⟨rfl, hcond⟩)
    | illegalCmd => exact .inr (.inr (.inl ⟨rfl, hcond⟩))
    | qrAlias => exact .inr (.inr (.inr (.inl ⟨rfl, hcond⟩)))
    | busyWrite => exact .inr (.inr (.inr (.inr ⟨rfl, hcond⟩)))

/-! ## Engines that agree but for the error -/

section
variable {e e' : Engine} (h : SameButError e e')
include h

theorem SameButError.exists_eq : ∃ err code, e' = { e with ERR := err, ERRCODE := code } := ⟨_, _, h⟩

theorem SameButError.symm : SameButError e' e := by
  obtain ⟨_, _, rfl⟩ := h.exists_eq
  rfl

theorem SameButError.busy_eq : e'.BUSY = e.BUSY := by
  obtain ⟨_, _, rfl⟩ := h.exists_eq
  rfl

theorem SameButError.pend_eq : e'.PEND = e.PEND := by
  obtain ⟨_, _, rfl⟩ := h.exists_eq
  rfl

/-- R75: an error raised on both sides touches the error alone, whatever stood before. -/
theorem SameButError.raiseError_congr (c : ErrorCode) : SameButError (e.raiseError c) (e'.raiseError c) :=
  (SameButError.raiseError c e).symm.trans (h.trans (.raiseError c e'))

theorem SameButError.accept_congr (i : Instr) : SameButError (e.accept i) (e'.accept i) := by
  obtain ⟨_, _, rfl⟩ := h.exists_eq
  rfl

theorem SameButError.retire_congr : SameButError e.retire e'.retire := by
  obtain ⟨_, _, rfl⟩ := h.exists_eq
  rfl

/-- R77: no command reads the error. -/
theorem SameButError.commandEffect_congr (i : Instr) : SameButError (commandEffect i e) (commandEffect i e') := by
  obtain ⟨_, _, rfl⟩ := h.exists_eq
  cases i <;> rfl

theorem SameButError.commandCheck_eq (i : Instr) : commandCheck i e' = commandCheck i e := by
  obtain ⟨_, _, rfl⟩ := h.exists_eq
  cases i <;> rfl

theorem SameButError.writeReg_congr (r : Reg) (v : Word) : SameButError (e.writeReg r v) (e'.writeReg r v) := by
  by_cases hr : r = .status
  · subst hr
    exact (SameButError.writeStatus v e).symm.trans (h.trans (.writeStatus v e'))
  · obtain ⟨_, _, rfl⟩ := h.exists_eq
    cases r with
    | status => exact absurd rfl hr
    | state _ | key _ | counter | nonce _ | latchv | cmd | const _ | orig _ => rfl

/-- R33: STATUS alone shows the error. -/
theorem SameButError.readReg_eq {r : Reg} (hr : r ≠ .status) : e'.readReg r = e.readReg r := by
  obtain ⟨_, _, rfl⟩ := h.exists_eq
  cases r with
  | status => exact absurd rfl hr
  | state _ | key _ | counter | nonce _ | latchv | cmd | const _ | orig _ => rfl

end

/-! ## States that agree but for the error -/

section
variable {s s' : State} (h : SameStateButError s s')
include h

theorem SameStateButError.setEngine {e e' : Engine} (he : SameButError e e') :
    SameStateButError { s with engine := e } { s' with engine := e' } :=
  ⟨he, h.inputs, h.draws, h.latLeft⟩

theorem SameStateButError.tick : SameStateButError s.tick s'.tick :=
  ⟨h.engine, h.inputs, h.draws, by simp [h.latLeft]⟩

theorem SameStateButError.popped (rest : List HostOp) : SameStateButError (s.popped rest) (s'.popped rest) :=
  ⟨h.engine, rfl, h.draws, by simp [h.latLeft]⟩

theorem SameStateButError.raiseError (c : ErrorCode) : SameStateButError (s.raiseError c) (s'.raiseError c) :=
  h.setEngine (h.engine.raiseError_congr c)

theorem SameStateButError.accept (i : Instr) : SameStateButError (s.accept i) (s'.accept i) :=
  ⟨h.engine.accept_congr i, h.inputs, by simp [h.draws], by simp [h.draws]⟩

theorem SameStateButError.complete (i : Instr) :
    SameStateButError (s.complete (commandEffect i)) (s'.complete (commandEffect i)) :=
  h.setEngine (h.engine.commandEffect_congr i).retire_congr

theorem SameStateButError.applyReset : SameStateButError (applyReset s) (applyReset s') :=
  ⟨.refl _, h.inputs, h.draws, rfl⟩

theorem SameStateButError.readIsDraw_eq (off : Offset) : readIsDraw off s'.engine = readIsDraw off s.engine := by
  rw [readIsDraw, readIsDraw, h.engine.busy_eq]

theorem SameStateButError.regRead (off : Offset) : SameStateButError (regRead off s) (regRead off s') :=
  ⟨h.engine, h.inputs, by simp [Machine.regRead, h.readIsDraw_eq, h.draws], h.latLeft⟩

theorem SameStateButError.pollStatus : SameStateButError (pollStatus s) (pollStatus s') := by
  rw [pollStatus_eq, pollStatus_eq]
  exact ⟨h.engine, by simp [h.engine.busy_eq, h.inputs], h.draws, h.latLeft⟩

theorem SameStateButError.regReadValue_eq {off : Offset} (hal : off.toNat % 4 = 0) (hoff : off ≠ 0x78) :
    regReadValue off s' = regReadValue off s := by
  rw [regReadValue, regReadValue, h.readIsDraw_eq, h.draws]
  cases hr : regAt off with
  | none => rfl
  | some r =>
    have hstatus : r ≠ .status := by
      rintro rfl
      exact hoff (regOffset_of_regAt off hal _ hr).symm
    simp only [h.engine.readReg_eq hstatus]

theorem SameStateButError.next_iff (op : HostOp) (rest : List HostOp) : Next s' op rest ↔ Next s op rest := by
  have hd : NotDue s' ↔ NotDue s := by rw [NotDue, NotDue, h.latLeft, h.engine.pend_eq]
  exact ⟨fun hn => ⟨hd.1 hn.notDue, h.inputs ▸ hn.inputs⟩, fun hn => ⟨hd.2 hn.notDue, h.inputs.trans hn.inputs⟩⟩

end

/-! ## Outcomes that agree but for the error -/

/-- R21, R77: two words that differ at most in ERR (bit 1) and ERRCODE (bits 7:4). -/
def SameWordButError (v v' : Word) : Prop := ∀ k : Nat, k ≠ 1 → k < 4 ∨ 8 ≤ k → v.getLsbD k = v'.getLsbD k

/-- What the same event makes of two states that have returned `w` and `w'`: states that agree but for the error, with
the same word returned if any, or one that differs in the error bits if `ReadsStatus`; or the same fault. -/
inductive OutcomesAgree (ReadsStatus : Prop) (w w' : List Word) :
    Host.Outcome State Fault Refusal → Host.Outcome State Fault Refusal → Prop where
  | silent {t t' : State} (h : SameStateButError t t') (hr : t.returned = w) (hr' : t'.returned = w') :
      OutcomesAgree ReadsStatus w w' (.next t) (.next t')
  | returns {t t' : State} {v v' : Word} (h : SameStateButError t t') (hr : t.returned = v :: w)
      (hr' : t'.returned = v' :: w') (hv : v = v' ∨ ReadsStatus ∧ SameWordButError v v') :
      OutcomesAgree ReadsStatus w w' (.next t) (.next t')
  | fault (f : Fault) : OutcomesAgree ReadsStatus w w' (.fault f) (.fault f)

section
variable {ReadsStatus : Prop} {s s' : State} (h : SameStateButError s s')
include h

theorem exec_agrees (i : Instr) : OutcomesAgree ReadsStatus s.returned s'.returned (exec i s) (exec i s') := by
  have hraise (c : ErrorCode) :
      OutcomesAgree ReadsStatus s.returned s'.returned (.next (s.raiseError c)) (.next (s'.raiseError c)) :=
    .silent (h.raiseError c) rfl rfl
  by_cases hp : s.engine.PEND = some i
  · rw [exec_pending hp, exec_pending (h.engine.pend_eq.trans hp)]
    exact .silent (h.complete i) rfl rfl
  · by_cases hi : i = .nop
    · subst hi
      simp only [exec, execNop, h.engine.pend_eq, h.engine.busy_eq, if_neg hp]
      split
      · exact hraise _
      · exact .silent h rfl rfl
    · simp only [exec_eq_runCommand hi, runCommand, h.engine.pend_eq, h.engine.busy_eq, h.engine.commandCheck_eq,
        if_neg hp]
      split
      · exact hraise _
      · cases commandCheck i s.engine with
        | some c => exact hraise c
        | none => exact .silent (h.accept i) rfl rfl

theorem issue_agrees (v : Word) : OutcomesAgree ReadsStatus s.returned s'.returned (issue v s) (issue v s') := by
  cases hd : decode v with
  | error x =>
    have hillegal := not_legalWord_of_decode_error hd
    rw [issue_of_not_legalWord hillegal, issue_of_not_legalWord hillegal]
    exact .silent (h.raiseError _) rfl rfl
  | ok i =>
    rw [issue_of_decode hd, issue_of_decode hd]
    exact exec_agrees h i

theorem regWrite_agrees (off : Offset) (v : Word) :
    OutcomesAgree ReadsStatus s.returned s'.returned (regWrite off v s) (regWrite off v s') := by
  cases hr : regAt off with
  | none =>
    simp only [regWrite, hr]
    exact .silent h rfl rfl
  | some r =>
    simp only [regWrite, hr, writeRegister, h.engine.busy_eq]
    split
    · exact .silent (h.raiseError _) rfl rfl
    · split
      · exact issue_agrees h v
      · exact .silent (h.setEngine (h.engine.writeReg_congr r v)) rfl rfl

/-- R33, R77: two reads of an aligned offset return the same word, unless they read STATUS. -/
theorem regRead_agrees {off : Offset} (hal : off.toNat % 4 = 0) (hstatus : off = 0x78 → ReadsStatus) :
    OutcomesAgree ReadsStatus s.returned s'.returned (.next (regRead off s)) (.next (regRead off s')) := by
  refine .returns (h.regRead off) rfl rfl ?_
  by_cases hoff : off = 0x78
  · subst hoff
    rw [regReadValue_status, regReadValue_status]
    exact .inr ⟨hstatus rfl, fun _ => statusWord_getLsbD_of_sameButError h.engine⟩
  · exact .inl (h.regReadValue_eq hal hoff).symm

theorem pollStatus_agrees (hstatus : ReadsStatus) :
    OutcomesAgree ReadsStatus s.returned s'.returned (.next (pollStatus s)) (.next (pollStatus s')) :=
  .returns h.pollStatus (by rw [pollStatus_eq]) (by rw [pollStatus_eq])
    (.inr ⟨hstatus, fun _ => statusWord_getLsbD_of_sameButError h.engine⟩)

theorem perform_agrees {op : HostOp} (hstatus : op = .read 0x78 4 ∨ op = .wait → ReadsStatus) :
    OutcomesAgree ReadsStatus s.returned s'.returned (perform op s) (perform op s') := by
  cases op with
  | read off bytes =>
    cases href : accessRefused off bytes with
    | true =>
      simp only [perform, href]
      exact .fault _
    | false =>
      obtain ⟨rfl, hal⟩ := (accepted_iff off bytes).1 href
      simp only [perform, href]
      exact regRead_agrees h hal fun hoff => hstatus (.inl (by rw [hoff]))
  | write off bytes v =>
    simp only [perform]
    split
    · exact .fault _
    · exact regWrite_agrees h off v
  | wait => exact pollStatus_agrees h (hstatus (.inr rfl))
  | reset => exact .silent h.applyReset rfl rfl

/-- R77: one step from each of two states that agree but for the error. -/
theorem step_agrees : OutcomesAgree (NextReadsStatus s) s.returned s'.returned (step s) (step s') := by
  obtain ⟨i, ⟨hp, hl⟩, ht⟩ | ⟨hd, hin, ht⟩ | ⟨op, rest, hn, ht⟩ := step_cases (s := s) rfl
  · rw [ht, step_due ⟨h.engine.pend_eq.trans hp, h.latLeft.trans hl⟩, exec_pending (h.engine.pend_eq.trans hp)]
    exact .silent (h.complete i) rfl rfl
  · have hd' : NotDue s' := fun hl => h.engine.pend_eq.trans (hd (h.latLeft.symm.trans hl))
    rw [ht, step_quiet hd' (h.inputs.trans hin)]
    exact .silent h.tick rfl rfl
  · have hstatus : op = .read 0x78 4 ∨ op = .wait → NextReadsStatus s := by
      rintro (rfl | rfl)
      · exact ⟨rest, .inl hn⟩
      · exact ⟨rest, .inr hn⟩
    rw [← ht, step_next ((h.next_iff op rest).2 hn)]
    exact perform_agrees (h.popped rest) hstatus

end

/-- Settles O32: the outcomes of the two steps agree, for no operation but a read of STATUS looks at the error. -/
theorem errorDoesNotBlockTheEngine : Obligations.ErrorDoesNotBlockTheEngine := by
  intro s s' h
  have hagree := step_agrees h
  generalize step s = o at hagree ⊢
  generalize step s' = o' at hagree ⊢
  cases hagree with
  | @silent t t' ht hr hr' =>
    refine ⟨fun u hu => ?_, fun f hf => nomatch hf⟩
    cases hu
    exact ⟨t', rfl, ht, [], [], hr, hr', .inl rfl⟩
  | @returns t t' v v' ht hr hr' hv =>
    refine ⟨fun u hu => ?_, fun f hf => nomatch hf⟩
    cases hu
    refine ⟨t', rfl, ht, [v], [v'], hr, hr', ?_⟩
    obtain rfl | ⟨hstatus, hbits⟩ := hv
    · exact .inl rfl
    · exact .inr ⟨hstatus, v, v', rfl, rfl, hbits⟩
  | fault f => exact ⟨fun u hu => (nomatch hu), fun _ hf => hf⟩

end Sys2Proof.Machine
end

section
/-! PROOFS of the family 70_reset_and_hazards.md: the reset input as a step, and the run of a pending command up to its
completion: what a step before it keeps (`State.Awaiting`), and the induction on the latency that is left. -/

namespace Sys2Proof.Machine

/-! ## Reset -/

/-- R89: the reset input as a step, whatever is pending. -/
theorem step_reset {s : State} {rest : List HostOp} (h : Next s .reset rest) :
    step s = .next (applyReset (s.popped rest)) := step_next h

/-- Settles O33: the reset values of `Engine.reset`, and the step of the reset input. -/
theorem resetGivesTheResetValues : Obligations.ResetGivesTheResetValues := ⟨rfl, fun _ _ => step_reset⟩

/-! ## Steps of a safe run -/

/-- R31: a host operation that is no refused access is always performed. -/
theorem perform_answers_next {op : HostOp} (h : HostOpAccepted op) (s : State) : ∃ t, perform op s = .next t := by
  cases op with
  | read off bytes => exact ⟨_, if_neg (Bool.eq_false_iff.1 h)⟩
  | write off bytes v =>
    obtain ⟨t, ht⟩ := regWrite_answers_next ((accepted_iff off bytes).1 h).2 v s
    exact ⟨t, (if_neg (Bool.eq_false_iff.1 h)).trans ht⟩
  | wait | reset => exact ⟨_, rfl⟩

theorem Next.mem_inputs {s : State} {op : HostOp} {rest : List HostOp} (h : Next s op rest) : op ∈ s.inputs := by
  simp [h.inputs]

theorem Next.rest_subset {s : State} {op : HostOp} {rest : List HostOp} (h : Next s op rest) : rest ⊆ s.inputs := by
  simp [h.inputs]

theorem State.Safe.step_answers_next {s : State} (h : s.Safe) : ∃ t, step s = .next t := by
  obtain ⟨i, _, ht⟩ | ⟨_, _, ht⟩ | ⟨op, rest, hn, ht⟩ := step_cases (s := s) rfl
  · exact ⟨_, ht⟩
  · exact ⟨_, ht⟩
  · exact ht ▸ perform_answers_next (h op hn.mem_inputs) _

/-- A step puts no new operation into the queue; a poll that finds BUSY 1 keeps the `wait` it was. -/
theorem step_inputs_subset {s t : State} (h : step s = .next t) : t.inputs ⊆ s.inputs := by
  cases step_event h with
  | completes _ _ | quiet _ _ => exact List.Subset.refl _
  | polls rest hn =>
    rw [pollStatus_eq, hn.inputs]
    cases hb : s.engine.BUSY <;> simp [hb]
  | reads _ _ _ hn | resets _ hn | ignores _ _ _ _ hn _ | stores _ _ _ hn _ _ | raises _ _ _ _ hn _
  | nops _ _ hn _ _ | accepts _ _ _ hn _ _ _ _ | inconsistent _ _ _ hn _ _ => exact hn.rest_subset

/-! ## From a pending command to its completion -/

/-- The hypotheses of R93: the command `i` is pending in a state of the invariant, and no refused access and no reset is
waiting. -/
structure State.Awaiting (s : State) (i : Instr) : Prop where
  inv : s.engine.Inv
  safe : s.Safe
  no_reset : .reset ∉ s.inputs
  pending : s.engine.PEND = some i

/-- R36, R95: a step before the completion comes one step nearer to it and touches nothing but ERR and ERRCODE. -/
theorem State.Awaiting.step {s : State} {i : Instr} (h : s.Awaiting i) (hlat : 0 < s.latLeft) :
    ∃ t, Machine.step s = .next t ∧ t.Awaiting i ∧ SameButError s.engine t.engine ∧ t.latLeft = s.latLeft - 1 := by
  obtain ⟨t, ht⟩ := h.safe.step_answers_next
  have hsub := step_inputs_subset ht
  obtain ⟨hsame, hl⟩ := pendingCommandIsUndisturbed s t i h.inv h.pending hlat
    (fun rest hin => h.no_reset (by simp [hin])) ht
  exact ⟨t, ht, ⟨stepKeepsTheInvariant s t h.inv ht, fun op hop => h.safe op (hsub hop),
    fun hr => h.no_reset (hsub hr), hsame.pend_eq.trans h.pending⟩, hsame, hl⟩

/-- R93: after `latLeft` steps the completion is due. The run is said for every number `k` of further steps, so that it
can be continued through the completion. -/
theorem State.Awaiting.run_to_due {s : State} {i : Instr} (h : s.Awaiting i) :
    ∃ u, (∀ k, Host.Core.run core (k + s.latLeft) s = Host.Core.run core k u) ∧ Due u i ∧
      SameButError s.engine u.engine := by
  induction hn : s.latLeft generalizing s with
  | zero => exact ⟨s, fun _ => rfl, ⟨h.pending, hn⟩, .refl _⟩
  | succ n ih =>
    obtain ⟨t, ht, hawait, hsame, hl⟩ := h.step (by omega)
    obtain ⟨u, hrun, hdue, hsame'⟩ := ih hawait (by omega)
    exact ⟨u, fun k => (run_succ ht).trans (hrun k), hdue, hsame.trans hsame'⟩

/-- Settles O41: the run to the due completion, and the completing step, which retires the command. -/
theorem acceptedCommandsComplete : Obligations.AcceptedCommandsComplete := by
  intro s i hinv hsafe hreset hp
  obtain ⟨u, hrun, hdue, hsame⟩ := State.Awaiting.run_to_due ⟨hinv, hsafe, hreset, hp⟩
  have hstep : step u = .next (u.complete (commandEffect i)) := (step_due hdue).trans (exec_pending hdue.pending)
  have hlast : Host.Core.run core (s.latLeft + 1) s = .next (u.complete (commandEffect i)) := by
    rw [Nat.add_comm, hrun 1]
    exact run_succ hstep
  obtain ⟨hpend, hbusy⟩ := u.complete_idle (commandEffect i)
  exact ⟨u, _, by simpa [Host.Core.run] using hrun 0, hdue, hsame, hstep, hlast, hpend, hbusy⟩

end Sys2Proof.Machine
end
